-- ==== Sys2Proof/Word.lean ====
section
/-! DEFINITION. The words of the stepper block: the three formats it decodes, the host port's data and the bytes of a CAN
frame (spec 30 R100, R106; 43 R211). -/

namespace Sys2Proof

/-- One byte of a CAN payload, and the id byte (43 R211). -/
abbrev Byte := BitVec 8

/-- A STAGE word: the value of `motion_flags` and of `shadow_flags` (30 R100, R101). -/
abbrev StageWord := BitVec 8

/-- A HOST word: write flag, 7-bit address, 32 bits of data (30 R106). -/
abbrev HostWord := BitVec 40

/-- A word address of the host register space (20 R70). -/
abbrev HostAddr := BitVec 7

/-- The data field of a HOST word, and what a read returns (30 R106). -/
abbrev Data := BitVec 32

/-- The EVT word `UIE, UIF` (30 R112). -/
abbrev EvtWord := BitVec 2

end Sys2Proof
end

