-- ==== Sys2Proof/Syntax.lean ====
section
/-! DEFINITION. The names of the stepper block: axes, stages, current registers, step counters, the commands of the command
layer, and the instructions, one constructor for each row of `spec/opcode_table.json`. -/

namespace Sys2Proof

/-- The two axis instances, numbered 0 and 1 (10 R20). -/
inductive Axis where
  | zero
  | one
deriving DecidableEq, Repr, Inhabited

/-- The nine actions an axis can run in a tick, in the priority order of 30 R102 (30 R105's enumerated view). -/
inductive Stage where
  | cwSpinup
  | cwCruise
  | cwSpindown
  | ccwSpinup
  | ccwCruise
  | ccwSpindown
  | ccwCreep
  | cwCreep
  | idle
deriving DecidableEq, Repr, Inhabited

/-- The five configured current scalars of an axis (10 R31). -/
inductive CurrentReg where
  | spinup
  | cruise
  | spindown
  | creep
  | drop
deriving DecidableEq, Repr, Inhabited

/-- The three step counters of an axis (10 R27 to R29). -/
inductive StepCounter where
  | cruise
  | cwCreep
  | ccwCreep
deriving DecidableEq, Repr, Inhabited

/-- What a select byte of command 4 names: an axis, the step counter the count goes to (none for a stage without one) and
the stage bits to set (43 R214). -/
structure MoveTarget where
  axis : Axis
  counter : Option StepCounter
  flags : StageWord
deriving DecidableEq, Repr, Inhabited

/-- A CAN frame as the dispatcher sees it: the low 8 bits of the identifier and up to 8 payload bytes (43 R211). -/
structure CanFrame where
  id : Byte
  payload : List Byte
deriving DecidableEq, Repr, Inhabited

/-- The commands that touch the block (43 R211): ids 2, 3, 4 and 7 with the payload bytes their handlers look at. -/
inductive Command where
  /-- Id 2: eight current bytes (43 R212). -/
  | setCurrents (b0 b1 b2 b3 b4 b5 b6 b7 : Byte)
  /-- Id 3: the two creep periods and the spin period (43 R213). -/
  | setPeriods (creep0 creep1 spin : Byte)
  /-- Id 4: select byte, three count bytes, two post-pause bytes (43 R214). -/
  | queueMove (select c1 c2 c3 p4 p5 : Byte)
  /-- Id 7: execute the queued move table now (43 R215). -/
  | execute
deriving DecidableEq, Repr, Inhabited

/-- The instructions: one constructor for each row of `spec/opcode_table.json`, in the table's order. A stage action's axis
is the implicit operand of its row; the queue bits `q` below the active bit belong to `motion_flags`, not to the action
(30 R103). -/
inductive Instr where
  /-- 41 R155. -/
  | cwSpinup (m : Axis)
  /-- 41 R156. -/
  | cwCruise (m : Axis)
  /-- 41 R157. -/
  | cwSpindown (m : Axis)
  /-- 41 R158. -/
  | ccwSpinup (m : Axis)
  /-- 41 R159. -/
  | ccwCruise (m : Axis)
  /-- 41 R160. -/
  | ccwSpindown (m : Axis)
  /-- 41 R161. -/
  | ccwCreep (m : Axis)
  /-- 41 R162. -/
  | cwCreep (m : Axis)
  /-- 41 R163. -/
  | idle (m : Axis)
  /-- 40 R135. -/
  | tick
  /-- 42 R181. -/
  | rd (addr : HostAddr)
  /-- 42 R182. -/
  | wrTimCtrl (data : Data)
  /-- 42 R183. -/
  | wrTimPeriod (data : Data)
  /-- 42 R184. -/
  | wrCommit (data : Data)
  /-- 42 R185. -/
  | wrSpinPeriod (data : Data)
  /-- 42 R186. -/
  | wrShadowFlags (m : Axis) (data : Data)
  /-- 42 R187. -/
  | wrCruiseSteps (m : Axis) (data : Data)
  /-- 42 R188. -/
  | wrCwCreepSteps (m : Axis) (data : Data)
  /-- 42 R189. -/
  | wrCcwCreepSteps (m : Axis) (data : Data)
  /-- 42 R190. -/
  | wrCurSpinup (m : Axis) (data : Data)
  /-- 42 R191. -/
  | wrCurCruise (m : Axis) (data : Data)
  /-- 42 R192. -/
  | wrCurSpindown (m : Axis) (data : Data)
  /-- 42 R193. -/
  | wrCurCreep (m : Axis) (data : Data)
  /-- 42 R194. -/
  | wrCurDrop (m : Axis) (data : Data)
  /-- 42 R195. -/
  | wrCreepPeriod (m : Axis) (data : Data)
  /-- 42 R196. -/
  | wrBump (m : Axis) (data : Data)
  /-- 42 R197. -/
  | wrIgnored (addr : HostAddr) (data : Data)
  /-- 43 R212. -/
  | cmd2SetCurrents (b0 b1 b2 b3 b4 b5 b6 b7 : Byte)
  /-- 43 R213. -/
  | cmd3SetPeriods (creep0 creep1 spin : Byte)
  /-- 43 R214. -/
  | cmd4QueueMove (select c1 c2 c3 p4 p5 : Byte)
  /-- 43 R215. -/
  | cmd7Execute
deriving DecidableEq, Repr, Inhabited

/-- An encoded instruction, with the place it is decoded at: the format is not in the bits but in who decodes them
(30 R100). -/
inductive Code where
  /-- The value of `motion_flags` of an axis, decoded by the engine. -/
  | stage (m : Axis) (w : StageWord)
  /-- The two state bits `UIE, UIF`, decoded by the engine. -/
  | evt (w : EvtWord)
  /-- A host transaction, decoded by the host port. -/
  | host (w : HostWord)
  /-- A CAN frame, decoded by the command dispatcher. -/
  | can (f : CanFrame)
deriving DecidableEq, Repr, Inhabited

/-- Why a code holds no instruction. -/
inductive DecodeError where
  /-- An EVT word other than `0b11` starts nothing (30 R112). -/
  | noEvent
  /-- A CAN id that touches no register of the block (43 R211, R218; 93 U10). -/
  | unknownCommand
  /-- A CAN payload with fewer bytes than its command's fields (entry 23). -/
  | shortPayload
  /-- A CAN payload of more than 8 bytes (43 R211; entry 23). -/
  | longPayload
deriving DecidableEq, Repr, Inhabited

end Sys2Proof
end

