-- ==== Sys2Proof/WellFormed.lean ====
section
/-! DEFINITION. The check of an instruction's operands. The only operand with values its row does not admit is the address
of `WR.IGNORED`, whose row has the lowest priority: it must be an address that no other write row has (42 R197). -/

namespace Sys2Proof

/-- The addresses of the four writable global registers (30 R108). -/
def writableGlobal (addr : HostAddr) : Bool :=
  addr == 0x00#7 || addr == 0x01#7 || addr == 0x03#7 || addr == 0x04#7

/-- The addresses of the eleven writable registers of each axis: offsets 0x00 and 0x05 to 0x0E (30 R109). -/
def writableAxis (addr : HostAddr) : Bool :=
  addr.getLsbD 6 &&
    ((addr.extractLsb' 0 5).toNat == 0x00 ||
      (0x05 ≤ (addr.extractLsb' 0 5).toNat && (addr.extractLsb' 0 5).toNat ≤ 0x0E))

/-- An instruction some code stands for. -/
def Instr.wellFormed : Instr → Bool
  | .cwSpinup _ => true
  | .cwCruise _ => true
  | .cwSpindown _ => true
  | .ccwSpinup _ => true
  | .ccwCruise _ => true
  | .ccwSpindown _ => true
  | .ccwCreep _ => true
  | .cwCreep _ => true
  | .idle _ => true
  | .tick => true
  | .rd _ => true
  | .wrTimCtrl _ => true
  | .wrTimPeriod _ => true
  | .wrCommit _ => true
  | .wrSpinPeriod _ => true
  | .wrShadowFlags _ _ => true
  | .wrCruiseSteps _ _ => true
  | .wrCwCreepSteps _ _ => true
  | .wrCcwCreepSteps _ _ => true
  | .wrCurSpinup _ _ => true
  | .wrCurCruise _ _ => true
  | .wrCurSpindown _ _ => true
  | .wrCurCreep _ _ => true
  | .wrCurDrop _ _ => true
  | .wrCreepPeriod _ _ => true
  | .wrBump _ _ => true
  | .wrIgnored addr _ => !writableGlobal addr && !writableAxis addr
  | .cmd2SetCurrents .. => true
  | .cmd3SetPeriods .. => true
  | .cmd4QueueMove .. => true
  | .cmd7Execute => true

end Sys2Proof
end

