-- ==== Sys2Proof/Decode.lean ====
section
/-! DEFINITION. The decoders of the three formats and of the CAN frames, total on every word, and the encoder
(30 R100 to R112; 43 R211). -/

namespace Sys2Proof

/-- The axis a register-bank bit names: `addr[5]` (30 R107). -/
def axisOfBit : Bool → Axis
  | false => .zero
  | true => .one

/-- `addr[5]` of an axis bank (30 R107). -/
def axisBit : Axis → BitVec 1
  | .zero => 0#1
  | .one => 1#1

/-! ### STAGE words -/

/-- The active stage of a stage word: its highest set bit (30 R102). -/
def decodeStage (w : StageWord) : Stage :=
  if w.getLsbD 7 then .cwSpinup
  else if w.getLsbD 6 then .cwCruise
  else if w.getLsbD 5 then .cwSpindown
  else if w.getLsbD 4 then .ccwSpinup
  else if w.getLsbD 3 then .ccwCruise
  else if w.getLsbD 2 then .ccwSpindown
  else if w.getLsbD 1 then .ccwCreep
  else if w.getLsbD 0 then .cwCreep
  else .idle

/-- The instruction that runs a stage on an axis (30 R102). -/
def stageInstr (m : Axis) : Stage → Instr
  | .cwSpinup => .cwSpinup m
  | .cwCruise => .cwCruise m
  | .cwSpindown => .cwSpindown m
  | .ccwSpinup => .ccwSpinup m
  | .ccwCruise => .ccwCruise m
  | .ccwSpindown => .ccwSpindown m
  | .ccwCreep => .ccwCreep m
  | .cwCreep => .cwCreep m
  | .idle => .idle m

/-! ### EVT words -/

/-- The EVT word starts the handler when it is `0b11`; any other value starts nothing (30 R112). -/
def decodeEvt (w : EvtWord) : Except DecodeError Instr :=
  if w = 0b11#2 then .ok .tick else .error .noEvent

/-! ### HOST words -/

/-- The `W` bit (30 R106). -/
def hostWrite (w : HostWord) : Bool := w.getLsbD 39

/-- The address field (30 R106). -/
def hostAddr (w : HostWord) : HostAddr := w.extractLsb' 32 7

/-- The data field (30 R106). -/
def hostData (w : HostWord) : Data := w.extractLsb' 0 32

/-- The write row of an address of the global bank (30 R107, R108). -/
def decodeGlobalWrite (addr : HostAddr) (data : Data) : Instr :=
  match (addr.extractLsb' 0 6).toNat with
  | 0x00 => .wrTimCtrl data
  | 0x01 => .wrTimPeriod data
  | 0x03 => .wrCommit data
  | 0x04 => .wrSpinPeriod data
  | _ => .wrIgnored addr data

/-- The write row of an address of an axis bank: `addr[5]` is the axis, `addr[4:0]` the register (30 R107, R109). -/
def decodeAxisWrite (addr : HostAddr) (data : Data) : Instr :=
  match (addr.extractLsb' 0 5).toNat with
  | 0x00 => .wrShadowFlags (axisOfBit (addr.getLsbD 5)) data
  | 0x05 => .wrCruiseSteps (axisOfBit (addr.getLsbD 5)) data
  | 0x06 => .wrCwCreepSteps (axisOfBit (addr.getLsbD 5)) data
  | 0x07 => .wrCcwCreepSteps (axisOfBit (addr.getLsbD 5)) data
  | 0x08 => .wrCurSpinup (axisOfBit (addr.getLsbD 5)) data
  | 0x09 => .wrCurCruise (axisOfBit (addr.getLsbD 5)) data
  | 0x0A => .wrCurSpindown (axisOfBit (addr.getLsbD 5)) data
  | 0x0B => .wrCurCreep (axisOfBit (addr.getLsbD 5)) data
  | 0x0C => .wrCurDrop (axisOfBit (addr.getLsbD 5)) data
  | 0x0D => .wrCreepPeriod (axisOfBit (addr.getLsbD 5)) data
  | 0x0E => .wrBump (axisOfBit (addr.getLsbD 5)) data
  | _ => .wrIgnored addr data

/-- A host transaction; every word is one (30 R106, R111). -/
def decodeHost (w : HostWord) : Instr :=
  if hostWrite w then
    if (hostAddr w).getLsbD 6 then decodeAxisWrite (hostAddr w) (hostData w)
    else decodeGlobalWrite (hostAddr w) (hostData w)
  else .rd (hostAddr w)

/-! ### CAN frames -/

/-- The command of a frame (43 R211 to R215). Bytes after a command's own are not looked at (entry 23). -/
def decodeCommand (f : CanFrame) : Except DecodeError Command :=
  if 8 < f.payload.length then .error .longPayload
  else match f.id.toNat, f.payload with
  | 2, b0 :: b1 :: b2 :: b3 :: b4 :: b5 :: b6 :: b7 :: _ => .ok (.setCurrents b0 b1 b2 b3 b4 b5 b6 b7)
  | 2, _ => .error .shortPayload
  | 3, creep0 :: creep1 :: spin :: _ => .ok (.setPeriods creep0 creep1 spin)
  | 3, _ => .error .shortPayload
  | 4, select :: c1 :: c2 :: c3 :: p4 :: p5 :: _ => .ok (.queueMove select c1 c2 c3 p4 p5)
  | 4, _ => .error .shortPayload
  | 7, _ => .ok .execute
  | _, _ => .error .unknownCommand

/-- The instruction of a command. -/
def commandInstr : Command → Instr
  | .setCurrents b0 b1 b2 b3 b4 b5 b6 b7 => .cmd2SetCurrents b0 b1 b2 b3 b4 b5 b6 b7
  | .setPeriods creep0 creep1 spin => .cmd3SetPeriods creep0 creep1 spin
  | .queueMove select c1 c2 c3 p4 p5 => .cmd4QueueMove select c1 c2 c3 p4 p5
  | .execute => .cmd7Execute

/-! ### All formats -/

/-- The instruction a code stands for, or the name of the reason there is none. -/
def decode : Code → Except DecodeError Instr
  | .stage m w => .ok (stageInstr m (decodeStage w))
  | .evt w => decodeEvt w
  | .host w => .ok (decodeHost w)
  | .can f => (decodeCommand f).map commandInstr

/-! ### The encoder -/

/-- The address of register `r` of the global bank (30 R107). -/
def globalAddr (r : BitVec 6) : HostAddr := 0#1 ++ r

/-- The address `0x40 + 0x20 * m + r` of register `r` of an axis bank (30 R107, R109). -/
def axisAddr (m : Axis) (r : BitVec 5) : HostAddr := 1#1 ++ (axisBit m ++ r)

/-- The HOST word of a write (30 R106). -/
def writeWord (addr : HostAddr) (data : Data) : HostWord := 1#1 ++ (addr ++ data)

/-- The HOST word of a read, its ignored data field 0 (30 R106). -/
def readWord (addr : HostAddr) : HostWord := 0#1 ++ (addr ++ 0#32)

/-- The code of an instruction, written from the encodings of 30 R101 (queue bits 0), R106 to R109, R112 and 43 R211. -/
def encode : Instr → Code
  | .cwSpinup m => .stage m 0x80#8
  | .cwCruise m => .stage m 0x40#8
  | .cwSpindown m => .stage m 0x20#8
  | .ccwSpinup m => .stage m 0x10#8
  | .ccwCruise m => .stage m 0x08#8
  | .ccwSpindown m => .stage m 0x04#8
  | .ccwCreep m => .stage m 0x02#8
  | .cwCreep m => .stage m 0x01#8
  | .idle m => .stage m 0x00#8
  | .tick => .evt 0b11#2
  | .rd addr => .host (readWord addr)
  | .wrTimCtrl data => .host (writeWord (globalAddr 0x00#6) data)
  | .wrTimPeriod data => .host (writeWord (globalAddr 0x01#6) data)
  | .wrCommit data => .host (writeWord (globalAddr 0x03#6) data)
  | .wrSpinPeriod data => .host (writeWord (globalAddr 0x04#6) data)
  | .wrShadowFlags m data => .host (writeWord (axisAddr m 0x00#5) data)
  | .wrCruiseSteps m data => .host (writeWord (axisAddr m 0x05#5) data)
  | .wrCwCreepSteps m data => .host (writeWord (axisAddr m 0x06#5) data)
  | .wrCcwCreepSteps m data => .host (writeWord (axisAddr m 0x07#5) data)
  | .wrCurSpinup m data => .host (writeWord (axisAddr m 0x08#5) data)
  | .wrCurCruise m data => .host (writeWord (axisAddr m 0x09#5) data)
  | .wrCurSpindown m data => .host (writeWord (axisAddr m 0x0A#5) data)
  | .wrCurCreep m data => .host (writeWord (axisAddr m 0x0B#5) data)
  | .wrCurDrop m data => .host (writeWord (axisAddr m 0x0C#5) data)
  | .wrCreepPeriod m data => .host (writeWord (axisAddr m 0x0D#5) data)
  | .wrBump m data => .host (writeWord (axisAddr m 0x0E#5) data)
  | .wrIgnored addr data => .host (writeWord addr data)
  | .cmd2SetCurrents b0 b1 b2 b3 b4 b5 b6 b7 => .can ⟨2#8, [b0, b1, b2, b3, b4, b5, b6, b7]⟩
  | .cmd3SetPeriods creep0 creep1 spin => .can ⟨3#8, [creep0, creep1, spin]⟩
  | .cmd4QueueMove select c1 c2 c3 p4 p5 => .can ⟨4#8, [select, c1, c2, c3, p4, p5]⟩
  | .cmd7Execute => .can ⟨7#8, []⟩

/-! ### The opcode table's words -/

/-- The code a word of `spec/opcode_table.json` of `nbits` bits stands for. 40 bits are a HOST word and 2 bits an EVT word. 8
bits do not name their format: three formats share them (STAGE, EVT padded to a whole byte, a CAN id). The word 0b11 is then
the EVT word, the word 7 the CAN id 7, and every other the stage word of axis 0, a CAN id 2, 3 or 4 with it (entry 13). -/
def tableCode (nbits w : Nat) : Option Code :=
  if nbits = 40 then some (.host (BitVec.ofNat 40 w))
  else if nbits = 2 then some (.evt (BitVec.ofNat 2 w))
  else if nbits = 8 then
    if w = 0b11 then some (.evt 0b11#2)
    else if w = 7 then some (.can ⟨7#8, []⟩)
    else some (.stage .zero (BitVec.ofNat 8 w))
  else none

/-- The instruction the decoder reads from a word of `spec/opcode_table.json`. -/
def decodeTableWord (nbits w : Nat) : Option Instr :=
  match tableCode nbits w with
  | some c => (decode c).toOption
  | none => none

end Sys2Proof
end

