-- ==== Sys2Proof/Machine/State.lean ====
section
/-! DEFINITION. The state of the stepper block (10 R20 to R41), the agents' side of it, the state after reset (10 R51) and
the two reason types. -/

namespace Sys2Proof.Machine

/-- The block raises no fault: every operation has a successor state (60 R230), so no constructor and nobody raises one
(entry 25). -/
inductive Fault where
deriving DecidableEq, Repr

/-- Why a step is refused. -/
inductive Refusal where
  /-- An arm of `exec` without a meaning, by the table's mnemonic. No arm is one in this model. Safe. -/
  | notModelled (mnemonic : String)
deriving DecidableEq, Repr

/-- One axis instance `ax[m]` with its three compare registers `PWM_CCR[m]` (10 R20 to R35). -/
structure AxisState where
  /-- `phase_angle`, units of 0.1 degree (10 R21). -/
  phaseAngle : BitVec 12
  /-- `motion_flags`, the live stage word (10 R22). -/
  motionFlags : StageWord
  /-- `shadow_flags`, the next stage word (10 R23). -/
  shadowFlags : StageWord
  /-- `spin_pointer`, index into the ramp table (10 R24). -/
  spinPointer : BitVec 6
  /-- `spin_subcount`, ticks within one ramp step (10 R25). -/
  spinSubcount : BitVec 8
  /-- `creep_subcount`, ticks within one creep step (10 R26). -/
  creepSubcount : BitVec 8
  /-- `cruise_steps_remaining` (10 R27). -/
  cruiseSteps : BitVec 32
  /-- `cw_creep_steps_remaining` (10 R28). -/
  cwCreepSteps : BitVec 32
  /-- `ccw_creep_steps_remaining` (10 R29). -/
  ccwCreepSteps : BitVec 32
  /-- `cw_creep_current_operating` (10 R30). -/
  cwCreepCurOp : BitVec 7
  /-- `ccw_creep_current_operating` (10 R30). -/
  ccwCreepCurOp : BitVec 7
  /-- `CUR_SPINUP` (10 R31). -/
  curSpinup : BitVec 7
  /-- `CUR_CRUISE` (10 R31). -/
  curCruise : BitVec 7
  /-- `CUR_SPINDOWN` (10 R31). -/
  curSpindown : BitVec 7
  /-- `CUR_CREEP` (10 R31). -/
  curCreep : BitVec 7
  /-- `CUR_DROP` (10 R31). -/
  curDrop : BitVec 7
  /-- `CREEP_PERIOD`, ticks per creep step (10 R32). -/
  creepPeriod : BitVec 8
  /-- `BUMP`: bit 0 CW creep, bit 1 CCW creep (10 R33). -/
  bump : BitVec 2
  /-- `PWM_CCR[m][0]` (10 R35). -/
  pwmCcr0 : BitVec 16
  /-- `PWM_CCR[m][1]` (10 R35). -/
  pwmCcr1 : BitVec 16
  /-- `PWM_CCR[m][2]` (10 R35). -/
  pwmCcr2 : BitVec 16
deriving DecidableEq, Repr, Inhabited

/-- One turn of an agent (00 R8; 20 R86): which one moves, and what it is given from outside the block. -/
inductive Turn where
  /-- One timer clock (40 R130). -/
  | clock
  /-- One update event of the untimed view (40 R134; entry 4). -/
  | event
  /-- The engine looks at its EVT word (40 R132). -/
  | engine
  /-- The host issues the access `w`, and the port serves the oldest access issued (20 R86, R89). -/
  | host (w : HostWord)
  /-- The port serves the oldest access issued (20 R89; 43 R210). -/
  | port
  /-- The dispatcher receives a frame and buffers it, or is triggered by it (43 R211, R215). -/
  | canReceive (f : CanFrame)
  /-- The dispatcher receives an "immediately-executable single command": it triggers the table it is the last command of
  (43 R215; entry 18). -/
  | canDispatch (f : CanFrame)
  /-- The sync line makes a transition: the trigger without a frame (43 R215; entry 24). -/
  | sync
  /-- The dispatcher finds the host's checksum of the move table wrong (43 R216); the verdict is given from outside (entry 24). -/
  | rejectTable
  /-- The reset input (70 R260). -/
  | reset
deriving DecidableEq, Repr, Inhabited

/-- The machine: the block's registers (10 R20 to R41), its straps, and the agents' side. -/
structure State where
  /-- `ax[0]`. -/
  ax0 : AxisState
  /-- `ax[1]`. -/
  ax1 : AxisState
  /-- `SPIN_PERIOD`, ticks per ramp step (10 R36). -/
  spinPeriod : BitVec 8
  /-- `COMMIT`, bit `m` for axis `m` (10 R37). -/
  commit : BitVec 2
  /-- `CEN`, counter enable, `TIM_CTRL` bit 0 (10 R38). -/
  cen : Bool
  /-- `UIE`, update interrupt enable, `TIM_CTRL` bit 1 (10 R38). -/
  uie : Bool
  /-- `UIF`, update pending, `TIM_STATUS` bit 0 (10 R40). -/
  uif : Bool
  /-- `TIM_PERIOD` (10 R39). -/
  timPeriod : BitVec 16
  /-- `CNT` (10 R41). -/
  cnt : BitVec 16
  /-- `REV[0]`, a strap: no step writes it (10 R34; entry 7). -/
  rev0 : Bool
  /-- `REV[1]`, a strap. -/
  rev1 : Bool
  /-- The model's own: the turns to come, the next first (20 R86; entry 1). -/
  turns : List Turn
  /-- The model's own: what the last `RD` returned to the host (30 R106; entry 11). -/
  readData : Option Data
  /-- The model's own: host accesses issued and not yet served, the oldest first (20 R88, R89; entry 9). -/
  hostQueue : List HostWord
  /-- The model's own: the dispatcher's move table, the first command first (43 R211). -/
  moveTable : List Command
deriving DecidableEq, Repr, Inhabited

/-- An axis after reset (10 R51). -/
def AxisState.reset : AxisState where
  phaseAngle := 0#12
  motionFlags := 0#8
  shadowFlags := 0#8
  spinPointer := 0#6
  spinSubcount := 0#8
  creepSubcount := 0#8
  cruiseSteps := 0#32
  cwCreepSteps := 0#32
  ccwCreepSteps := 0#32
  cwCreepCurOp := 0#7
  ccwCreepCurOp := 0#7
  curSpinup := 0#7
  curCruise := 0#7
  curSpindown := 0#7
  curCreep := 0#7
  curDrop := 0#7
  creepPeriod := 0#8
  bump := 0#2
  pwmCcr0 := 0#16
  pwmCcr1 := 0#16
  pwmCcr2 := 0#16

/-- The machine after reset (10 R51; 70 R261): every register 0 but `TIM_PERIOD`, the straps at their default 0 (92
section 2; entry 7), nothing issued, buffered or scheduled from outside (entries 1, 9, 11). -/
def State.reset : State where
  ax0 := AxisState.reset
  ax1 := AxisState.reset
  spinPeriod := 0#8
  commit := 0#2
  cen := false
  uie := false
  uif := false
  timPeriod := 4000#16
  cnt := 0#16
  rev0 := false
  rev1 := false
  turns := []
  readData := none
  hostQueue := []
  moveTable := []

end Sys2Proof.Machine
end

