-- ==== Sys2Proof/Machine/Flags.lean ====
section
/-! DEFINITION. The flag-like state (10 R44): the bits of a stage word, of `COMMIT`, of `BUMP`, of `TIM_CTRL` and the EVT
word. There are no arithmetic condition codes. -/

namespace Sys2Proof.Machine

/-- A stage word with bit `b` cleared (41 R152). -/
def clearStageBit (w : StageWord) (b : Nat) : StageWord := w &&& ~~~(1#8 <<< b)

/-- `COMMIT[m]` (10 R37). -/
def commitBit (m : Axis) (commit : BitVec 2) : Bool :=
  match m with
  | .zero => commit.getLsbD 0
  | .one => commit.getLsbD 1

/-- The commit mask with the bit of one axis (10 R37). -/
def commitMask : Axis → BitVec 2
  | .zero => 0b01#2
  | .one => 0b10#2

/-- The bump enable of a creep stage; the bit numbers equal the stages' (10 R33). -/
def bumpCw (bump : BitVec 2) : Bool := bump.getLsbD 0

/-- The bump enable of the CCW creep (10 R33). -/
def bumpCcw (bump : BitVec 2) : Bool := bump.getLsbD 1

/-- The EVT word `UIE, UIF`, `UIE` the more significant bit (30 R112). -/
def evtWord (uie uif : Bool) : EvtWord := BitVec.ofBool uie ++ BitVec.ofBool uif

/-- The value of `TIM_CTRL`: bit 0 `CEN`, bit 1 `UIE` (30 R108). -/
def timCtrlWord (cen uie : Bool) : BitVec 2 := BitVec.ofBool uie ++ BitVec.ofBool cen

end Sys2Proof.Machine
end

