-- ==== Sys2Proof/Config.lean ====
section
/-! DEFINITION. What an implementation fixes: the numeric parameters and the two ROMs as a record a claim can name (00 R6,
R7; 92 section 2), the constraint any admissible record meets, and the OPEN parameters of the command layer, which have no
value here: nothing can be proved of one beyond its type. -/

namespace Sys2Proof

/-- The parameters of the block (00 R6, R7). `N_AXES` is the type `Axis`; `REV[m]` stands in `State` (entry 7). -/
structure Config where
  /-- `PHASE_MOD`: the phase angle modulus. -/
  phaseMod : Nat
  /-- `LUT_LEN`: entries of the waveform table. -/
  lutLen : Nat
  /-- `DUTY_MAX`: largest duty value. -/
  dutyMax : Nat
  /-- `RAMP_LEN`: entries of the ramp table. -/
  rampLen : Nat
  /-- `CRUISE_INC`: phase units added in a cruise tick. -/
  cruiseInc : Nat
  /-- `CREEP_INC`: phase units added in a creep step. -/
  creepInc : Nat
  /-- `BUMP_WINDOW`: remaining creep steps at or below which the bump applies. -/
  bumpWindow : Nat
  /-- `CUR_ONE`: the integer that stands for the current scalar 1.0. -/
  curOne : Nat
  /-- `F_CLK`: timer input clock in Hz. -/
  fClk : Nat
  /-- `TIM_DIV`: timer clocks per tick. -/
  timDiv : Nat
  /-- `WAVE[i]` (20 R72). -/
  wave : Nat → Nat
  /-- `RAMP[i]` (20 R78). -/
  ramp : Nat → Nat

/-- `OFF_120` (00 R7). -/
def Config.off120 (c : Config) : Nat := c.phaseMod / 3

/-- `OFF_240` (00 R7; the constraint of 92 section 2 writes it `2 * (PHASE_MOD / 3)`). -/
def Config.off240 (c : Config) : Nat := 2 * (c.phaseMod / 3)

/-- `F_TICK`, ticks per second (00 R6). -/
def Config.fTick (c : Config) : Nat := c.fClk / c.timDiv

/-- The last index of the ramp table, the value at which a spin-up ends (10 R24). -/
def Config.rampTop (c : Config) : Nat := c.rampLen - 1

/-- What 92 section 2 asks of any value of the OPEN parameters: W1 to W5 of 20 R75, P1 and P2 of 20 R79, the two
inequalities of the numeric parameters, and that each value fits the register that holds it (92 D3). -/
structure Config.Admissible (c : Config) : Prop where
  /-- W1. -/
  waveBound : ∀ i, i < c.lutLen → c.wave i ≤ c.dutyMax
  /-- W2. -/
  wavePeriodic : ∀ i, i + c.phaseMod < c.lutLen → c.wave (i + c.phaseMod) = c.wave i
  /-- W3, about 0. -/
  waveSymmetric : ∀ i, i ≤ c.phaseMod → c.wave (c.phaseMod - i) = c.wave i
  /-- W3, about the half cycle. -/
  waveSymmetricHalf : ∀ d, d ≤ c.phaseMod / 2 → c.wave (c.phaseMod / 2 + d) = c.wave (c.phaseMod / 2 - d)
  /-- W4, first half cycle. -/
  waveFalls : ∀ i, i < c.phaseMod / 2 → c.wave (i + 1) ≤ c.wave i
  /-- W4, second half cycle. -/
  waveRises : ∀ i, c.phaseMod / 2 ≤ i → i < c.phaseMod → c.wave i ≤ c.wave (i + 1)
  /-- W5, the maximum. -/
  waveMax : ∀ i, i < c.lutLen → c.wave i ≤ c.wave 0
  /-- W5, the minimum. -/
  waveMin : ∀ i, i < c.lutLen → c.wave (c.phaseMod / 2) ≤ c.wave i
  /-- P1. -/
  rampLinear : ∃ a d, 0 < d ∧ ∀ i, i < c.rampLen → c.ramp i = a + d * i
  /-- P2. -/
  rampEnds : c.ramp c.rampTop = c.cruiseInc
  /-- `PHASE_MOD + 2 * (PHASE_MOD / 3) - 1 < LUT_LEN`. -/
  phaseFits : c.phaseMod + 2 * (c.phaseMod / 3) - 1 < c.lutLen
  /-- `CRUISE_INC < PHASE_MOD`. -/
  cruiseFits : c.cruiseInc < c.phaseMod
  /-- The phase angle fits 12 bits. -/
  phaseWidth : c.phaseMod ≤ 4096
  /-- A duty fits 16 bits. -/
  dutyWidth : c.dutyMax < 65536
  /-- The ramp pointer fits 6 bits. -/
  rampWidth : 0 < c.rampLen ∧ c.rampLen ≤ 64
  /-- A current scalar fits 7 bits. -/
  curWidth : 0 < c.curOne ∧ c.curOne < 128

/-- `CMD2_MAP`, OPEN (43 R212; 90 C10): the current registers that payload byte `k` of command 2 is written to, none, one or
several (a shared value). No value: entry 19. -/
opaque Config.cmd2Map : Nat → List (Axis × CurrentReg)

/-- `CMD4_SELECT` for the select bytes other than 0, OPEN (43 R214; 91 N7); `none`: the code selects nothing. No value:
entry 20. -/
opaque Config.cmd4SelectOther : Byte → Option MoveTarget

/-- `CMD4_BYTE_ORDER`, OPEN (43 R214): whether the first count byte is the most significant. No value: entry 20. -/
opaque Config.cmd4BigEndian : Bool

/-- Whether command 4's handler ORs its bits into the shadow word or replaces the word, OPEN (43 R214). No value:
entry 20. -/
opaque Config.cmd4OrsShadow : Bool

/-- Whether the move table is kept after command 7 has replayed it, not stated (43 R215). No value: entry 22. -/
opaque Config.cmd7KeepsTable : Bool

end Sys2Proof
end

