-- ==== Sys2Proof/Machine/Tables.lean ====
section
/-! DEFINITION. The contents of the two ROMs of this hardware (20 R76, R80; the listing of 96_wave_table_default.md) and
the configuration record made of them and of the numbers of 00 R6 and R7. -/

namespace Sys2Proof.Machine

/-- The listing's rows 0 to 180 (96_wave_table_default.md). -/
def waveRows0 : List (List Nat) := [
  [4000, 4000, 4000, 4000, 4000, 4000, 4000, 4000, 4000, 4000, 4000, 4000, 4000, 3999, 3999, 3999, 3999, 3999, 3999, 3999],
  [3999, 3999, 3999, 3998, 3998, 3998, 3998, 3998, 3998, 3997, 3997, 3997, 3997, 3997, 3996, 3996, 3996, 3996, 3996, 3995],
  [3995, 3995, 3995, 3994, 3994, 3994, 3994, 3993, 3993, 3993, 3992, 3992, 3992, 3991, 3991, 3991, 3990, 3990, 3990, 3989],
  [3989, 3989, 3988, 3988, 3988, 3987, 3987, 3986, 3986, 3986, 3985, 3985, 3984, 3984, 3983, 3983, 3982, 3982, 3981, 3981],
  [3981, 3980, 3980, 3979, 3979, 3978, 3978, 3977, 3976, 3976, 3975, 3975, 3974, 3974, 3973, 3973, 3972, 3971, 3971, 3970],
  [3970, 3969, 3968, 3968, 3967, 3967, 3966, 3965, 3965, 3964, 3963, 3963, 3962, 3961, 3961, 3960, 3959, 3958, 3958, 3957],
  [3956, 3956, 3955, 3954, 3953, 3953, 3952, 3951, 3950, 3950, 3949, 3948, 3947, 3946, 3946, 3945, 3944, 3943, 3942, 3941],
  [3941, 3940, 3939, 3938, 3937, 3936, 3935, 3935, 3934, 3933, 3932, 3931, 3930, 3929, 3928, 3927, 3926, 3925, 3924, 3923],
  [3923, 3922, 3921, 3920, 3919, 3918, 3917, 3916, 3915, 3914, 3913, 3912, 3911, 3910, 3908, 3907, 3906, 3905, 3904, 3903],
  [3902, 3901, 3900, 3899, 3898, 3897, 3896, 3894, 3893, 3892, 3891, 3890, 3889, 3888, 3886, 3885, 3884, 3883, 3882, 3881]]

/-- The listing's rows 200 to 380 (96_wave_table_default.md). -/
def waveRows1 : List (List Nat) := [
  [3879, 3878, 3877, 3876, 3875, 3873, 3872, 3871, 3870, 3868, 3867, 3866, 3865, 3863, 3862, 3861, 3860, 3858, 3857, 3856],
  [3854, 3853, 3852, 3850, 3849, 3848, 3846, 3845, 3844, 3842, 3841, 3840, 3838, 3837, 3836, 3834, 3833, 3831, 3830, 3829],
  [3827, 3826, 3824, 3823, 3821, 3820, 3818, 3817, 3816, 3814, 3813, 3811, 3810, 3808, 3807, 3805, 3804, 3802, 3801, 3799],
  [3798, 3796, 3795, 3793, 3791, 3790, 3788, 3787, 3785, 3784, 3782, 3780, 3779, 3777, 3776, 3774, 3772, 3771, 3769, 3768],
  [3766, 3764, 3763, 3761, 3759, 3758, 3756, 3754, 3753, 3751, 3749, 3748, 3746, 3744, 3742, 3741, 3739, 3737, 3736, 3734],
  [3732, 3730, 3729, 3727, 3725, 3723, 3721, 3720, 3718, 3716, 3714, 3713, 3711, 3709, 3707, 3705, 3703, 3702, 3700, 3698],
  [3696, 3694, 3692, 3691, 3689, 3687, 3685, 3683, 3681, 3679, 3677, 3675, 3674, 3672, 3670, 3668, 3666, 3664, 3662, 3660],
  [3658, 3656, 3654, 3652, 3650, 3648, 3646, 3644, 3642, 3640, 3638, 3636, 3634, 3632, 3630, 3628, 3626, 3624, 3622, 3620],
  [3618, 3616, 3614, 3612, 3610, 3608, 3606, 3604, 3601, 3599, 3597, 3595, 3593, 3591, 3589, 3587, 3585, 3582, 3580, 3578],
  [3576, 3574, 3572, 3570, 3567, 3565, 3563, 3561, 3559, 3556, 3554, 3552, 3550, 3548, 3545, 3543, 3541, 3539, 3537, 3534]]

/-- The listing's rows 400 to 580 (96_wave_table_default.md). -/
def waveRows2 : List (List Nat) := [
  [3532, 3530, 3528, 3525, 3523, 3521, 3519, 3516, 3514, 3512, 3509, 3507, 3505, 3503, 3500, 3498, 3496, 3493, 3491, 3489],
  [3486, 3484, 3482, 3479, 3477, 3475, 3472, 3470, 3467, 3465, 3463, 3460, 3458, 3456, 3453, 3451, 3448, 3446, 3444, 3441],
  [3439, 3436, 3434, 3431, 3429, 3427, 3424, 3422, 3419, 3417, 3414, 3412, 3409, 3407, 3404, 3402, 3399, 3397, 3394, 3392],
  [3389, 3387, 3384, 3382, 3379, 3377, 3374, 3372, 3369, 3367, 3364, 3361, 3359, 3356, 3354, 3351, 3349, 3346, 3343, 3341],
  [3338, 3336, 3333, 3330, 3328, 3325, 3323, 3320, 3317, 3315, 3312, 3309, 3307, 3304, 3302, 3299, 3296, 3294, 3291, 3288],
  [3286, 3283, 3280, 3278, 3275, 3272, 3269, 3267, 3264, 3261, 3259, 3256, 3253, 3250, 3248, 3245, 3242, 3240, 3237, 3234],
  [3231, 3229, 3226, 3223, 3220, 3218, 3215, 3212, 3209, 3206, 3204, 3201, 3198, 3195, 3192, 3190, 3187, 3184, 3181, 3178],
  [3176, 3173, 3170, 3167, 3164, 3161, 3159, 3156, 3153, 3150, 3147, 3144, 3141, 3139, 3136, 3133, 3130, 3127, 3124, 3121],
  [3118, 3115, 3113, 3110, 3107, 3104, 3101, 3098, 3095, 3092, 3089, 3086, 3083, 3080, 3078, 3075, 3072, 3069, 3066, 3063],
  [3060, 3057, 3054, 3051, 3048, 3045, 3042, 3039, 3036, 3033, 3030, 3027, 3024, 3021, 3018, 3015, 3012, 3009, 3006, 3003]]

/-- The listing's rows 600 to 780 (96_wave_table_default.md). -/
def waveRows3 : List (List Nat) := [
  [3000, 2997, 2994, 2991, 2988, 2985, 2982, 2979, 2976, 2973, 2970, 2967, 2964, 2960, 2957, 2954, 2951, 2948, 2945, 2942],
  [2939, 2936, 2933, 2930, 2927, 2923, 2920, 2917, 2914, 2911, 2908, 2905, 2902, 2899, 2896, 2892, 2889, 2886, 2883, 2880],
  [2877, 2874, 2870, 2867, 2864, 2861, 2858, 2855, 2852, 2848, 2845, 2842, 2839, 2836, 2833, 2829, 2826, 2823, 2820, 2817],
  [2813, 2810, 2807, 2804, 2801, 2797, 2794, 2791, 2788, 2785, 2781, 2778, 2775, 2772, 2769, 2765, 2762, 2759, 2756, 2752],
  [2749, 2746, 2743, 2739, 2736, 2733, 2730, 2727, 2723, 2720, 2717, 2713, 2710, 2707, 2704, 2700, 2697, 2694, 2691, 2687],
  [2684, 2681, 2677, 2674, 2671, 2668, 2664, 2661, 2658, 2654, 2651, 2648, 2645, 2641, 2638, 2635, 2631, 2628, 2625, 2621],
  [2618, 2615, 2611, 2608, 2605, 2601, 2598, 2595, 2591, 2588, 2585, 2581, 2578, 2575, 2571, 2568, 2565, 2561, 2558, 2555],
  [2551, 2548, 2545, 2541, 2538, 2534, 2531, 2528, 2524, 2521, 2518, 2514, 2511, 2508, 2504, 2501, 2497, 2494, 2491, 2487],
  [2484, 2480, 2477, 2474, 2470, 2467, 2463, 2460, 2457, 2453, 2450, 2447, 2443, 2440, 2436, 2433, 2429, 2426, 2423, 2419],
  [2416, 2412, 2409, 2406, 2402, 2399, 2395, 2392, 2388, 2385, 2382, 2378, 2375, 2371, 2368, 2364, 2361, 2358, 2354, 2351]]

/-- The listing's rows 800 to 980 (96_wave_table_default.md). -/
def waveRows4 : List (List Nat) := [
  [2347, 2344, 2340, 2337, 2334, 2330, 2327, 2323, 2320, 2316, 2313, 2309, 2306, 2303, 2299, 2296, 2292, 2289, 2285, 2282],
  [2278, 2275, 2271, 2268, 2265, 2261, 2258, 2254, 2251, 2247, 2244, 2240, 2237, 2233, 2230, 2226, 2223, 2219, 2216, 2213],
  [2209, 2206, 2202, 2199, 2195, 2192, 2188, 2185, 2181, 2178, 2174, 2171, 2167, 2164, 2160, 2157, 2153, 2150, 2146, 2143],
  [2140, 2136, 2133, 2129, 2126, 2122, 2119, 2115, 2112, 2108, 2105, 2101, 2098, 2094, 2091, 2087, 2084, 2080, 2077, 2073],
  [2070, 2066, 2063, 2059, 2056, 2052, 2049, 2045, 2042, 2038, 2035, 2031, 2028, 2024, 2021, 2017, 2014, 2010, 2007, 2003],
  [2000, 1997, 1993, 1990, 1986, 1983, 1979, 1976, 1972, 1969, 1965, 1962, 1958, 1955, 1951, 1948, 1944, 1941, 1937, 1934],
  [1930, 1927, 1923, 1920, 1916, 1913, 1909, 1906, 1902, 1899, 1895, 1892, 1888, 1885, 1881, 1878, 1874, 1871, 1867, 1864],
  [1860, 1857, 1854, 1850, 1847, 1843, 1840, 1836, 1833, 1829, 1826, 1822, 1819, 1815, 1812, 1808, 1805, 1801, 1798, 1794],
  [1791, 1787, 1784, 1781, 1777, 1774, 1770, 1767, 1763, 1760, 1756, 1753, 1749, 1746, 1742, 1739, 1735, 1732, 1729, 1725],
  [1722, 1718, 1715, 1711, 1708, 1704, 1701, 1697, 1694, 1691, 1687, 1684, 1680, 1677, 1673, 1670, 1666, 1663, 1660, 1656]]

/-- The listing's rows 1000 to 1180 (96_wave_table_default.md). -/
def waveRows5 : List (List Nat) := [
  [1653, 1649, 1646, 1642, 1639, 1636, 1632, 1629, 1625, 1622, 1618, 1615, 1612, 1608, 1605, 1601, 1598, 1594, 1591, 1588],
  [1584, 1581, 1577, 1574, 1571, 1567, 1564, 1560, 1557, 1553, 1550, 1547, 1543, 1540, 1537, 1533, 1530, 1526, 1523, 1520],
  [1516, 1513, 1509, 1506, 1503, 1499, 1496, 1492, 1489, 1486, 1482, 1479, 1476, 1472, 1469, 1466, 1462, 1459, 1455, 1452],
  [1449, 1445, 1442, 1439, 1435, 1432, 1429, 1425, 1422, 1419, 1415, 1412, 1409, 1405, 1402, 1399, 1395, 1392, 1389, 1385],
  [1382, 1379, 1375, 1372, 1369, 1365, 1362, 1359, 1355, 1352, 1349, 1346, 1342, 1339, 1336, 1332, 1329, 1326, 1323, 1319],
  [1316, 1313, 1309, 1306, 1303, 1300, 1296, 1293, 1290, 1287, 1283, 1280, 1277, 1273, 1270, 1267, 1264, 1261, 1257, 1254],
  [1251, 1248, 1244, 1241, 1238, 1235, 1231, 1228, 1225, 1222, 1219, 1215, 1212, 1209, 1206, 1203, 1199, 1196, 1193, 1190],
  [1187, 1183, 1180, 1177, 1174, 1171, 1167, 1164, 1161, 1158, 1155, 1152, 1148, 1145, 1142, 1139, 1136, 1133, 1130, 1126],
  [1123, 1120, 1117, 1114, 1111, 1108, 1104, 1101, 1098, 1095, 1092, 1089, 1086, 1083, 1080, 1077, 1073, 1070, 1067, 1064],
  [1061, 1058, 1055, 1052, 1049, 1046, 1043, 1040, 1036, 1033, 1030, 1027, 1024, 1021, 1018, 1015, 1012, 1009, 1006, 1003]]

/-- The listing's rows 1200 to 1380 (96_wave_table_default.md). -/
def waveRows6 : List (List Nat) := [
  [1000, 997, 994, 991, 988, 985, 982, 979, 976, 973, 970, 967, 964, 961, 958, 955, 952, 949, 946, 943],
  [940, 937, 934, 931, 928, 925, 922, 920, 917, 914, 911, 908, 905, 902, 899, 896, 893, 890, 887, 885],
  [882, 879, 876, 873, 870, 867, 864, 861, 859, 856, 853, 850, 847, 844, 841, 839, 836, 833, 830, 827],
  [824, 822, 819, 816, 813, 810, 808, 805, 802, 799, 796, 794, 791, 788, 785, 782, 780, 777, 774, 771],
  [769, 766, 763, 760, 758, 755, 752, 750, 747, 744, 741, 739, 736, 733, 731, 728, 725, 722, 720, 717],
  [714, 712, 709, 706, 704, 701, 698, 696, 693, 691, 688, 685, 683, 680, 677, 675, 672, 670, 667, 664],
  [662, 659, 657, 654, 651, 649, 646, 644, 641, 639, 636, 633, 631, 628, 626, 623, 621, 618, 616, 613],
  [611, 608, 606, 603, 601, 598, 596, 593, 591, 588, 586, 583, 581, 578, 576, 573, 571, 569, 566, 564],
  [561, 559, 556, 554, 552, 549, 547, 544, 542, 540, 537, 535, 533, 530, 528, 525, 523, 521, 518, 516],
  [514, 511, 509, 507, 504, 502, 500, 497, 495, 493, 491, 488, 486, 484, 481, 479, 477, 475, 472, 470]]

/-- The listing's rows 1400 to 1580 (96_wave_table_default.md). -/
def waveRows7 : List (List Nat) := [
  [468, 466, 463, 461, 459, 457, 455, 452, 450, 448, 446, 444, 441, 439, 437, 435, 433, 430, 428, 426],
  [424, 422, 420, 418, 415, 413, 411, 409, 407, 405, 403, 401, 399, 396, 394, 392, 390, 388, 386, 384],
  [382, 380, 378, 376, 374, 372, 370, 368, 366, 364, 362, 360, 358, 356, 354, 352, 350, 348, 346, 344],
  [342, 340, 338, 336, 334, 332, 330, 328, 326, 325, 323, 321, 319, 317, 315, 313, 311, 309, 308, 306],
  [304, 302, 300, 298, 297, 295, 293, 291, 289, 287, 286, 284, 282, 280, 279, 277, 275, 273, 271, 270],
  [268, 266, 264, 263, 261, 259, 258, 256, 254, 252, 251, 249, 247, 246, 244, 242, 241, 239, 237, 236],
  [234, 232, 231, 229, 228, 226, 224, 223, 221, 220, 218, 216, 215, 213, 212, 210, 209, 207, 205, 204],
  [202, 201, 199, 198, 196, 195, 193, 192, 190, 189, 187, 186, 184, 183, 182, 180, 179, 177, 176, 174],
  [173, 171, 170, 169, 167, 166, 164, 163, 162, 160, 159, 158, 156, 155, 154, 152, 151, 150, 148, 147],
  [146, 144, 143, 142, 140, 139, 138, 137, 135, 134, 133, 132, 130, 129, 128, 127, 125, 124, 123, 122]]

/-- The listing's rows 1600 to 1780 (96_wave_table_default.md). -/
def waveRows8 : List (List Nat) := [
  [121, 119, 118, 117, 116, 115, 114, 112, 111, 110, 109, 108, 107, 106, 104, 103, 102, 101, 100, 99],
  [98, 97, 96, 95, 94, 93, 92, 90, 89, 88, 87, 86, 85, 84, 83, 82, 81, 80, 79, 78],
  [77, 77, 76, 75, 74, 73, 72, 71, 70, 69, 68, 67, 66, 65, 65, 64, 63, 62, 61, 60],
  [59, 59, 58, 57, 56, 55, 54, 54, 53, 52, 51, 50, 50, 49, 48, 47, 47, 46, 45, 44],
  [44, 43, 42, 42, 41, 40, 39, 39, 38, 37, 37, 36, 35, 35, 34, 33, 33, 32, 32, 31],
  [30, 30, 29, 29, 28, 27, 27, 26, 26, 25, 25, 24, 24, 23, 22, 22, 21, 21, 20, 20],
  [19, 19, 19, 18, 18, 17, 17, 16, 16, 15, 15, 14, 14, 14, 13, 13, 12, 12, 12, 11],
  [11, 11, 10, 10, 10, 9, 9, 9, 8, 8, 8, 7, 7, 7, 6, 6, 6, 6, 5, 5],
  [5, 5, 4, 4, 4, 4, 4, 3, 3, 3, 3, 3, 2, 2, 2, 2, 2, 2, 1, 1],
  [1, 1, 1, 1, 1, 1, 1, 1, 0, 0, 0, 0, 0, 0, 0, 0, 0, 0, 0, 0]]

/-- The listing's rows 1800 to 1800 (96_wave_table_default.md). -/
def waveRows9 : List (List Nat) := [
  [0]]

/-- The whole listing: entry `20 * r + c` of `WAVE` stands in row `r`, column `c`, for indexes 0 to 1800. -/
def waveRows : List (List Nat) :=
  waveRows0 ++ waveRows1 ++ waveRows2 ++ waveRows3 ++ waveRows4 ++
    waveRows5 ++ waveRows6 ++ waveRows7 ++ waveRows8 ++ waveRows9

/-- `WAVE[i]` for 0 <= i <= 1800, as listed. -/
def waveListed (i : Nat) : Nat := (waveRows.getD (i / 20) []).getD (i % 20) 0

/-- `WAVE[i]`: the listing, continued by the two identities that 20 R76 and 96 give for the rest, `WAVE[3600 - i] = WAVE[i]`
(W3) and `WAVE[i + 3600] = WAVE[i]` (W2). Beyond the last entry 6143 it goes on as the function `lookup` of 20 R74 does;
no reachable state forms such an index (20 R77; entry 5). -/
def waveEntry (i : Nat) : Nat :=
  if i % 3600 ≤ 1800 then waveListed (i % 3600) else waveListed (3600 - i % 3600)

/-- `RAMP[i] = i` (20 R80). Beyond the last entry 33 it goes on as the identity; no reachable state forms such an index
(10 R49; entry 6). -/
def rampEntry (i : Nat) : Nat := i

/-- The configuration of this hardware: the values of 00 R6 and R7 and the default contents of the two ROMs (entry 8). -/
def hardware : Config where
  phaseMod := 3600
  lutLen := 6144
  dutyMax := 4000
  rampLen := 34
  cruiseInc := 33
  creepInc := 1
  bumpWindow := 900
  curOne := 100
  fClk := 72000000
  timDiv := 4000
  wave := waveEntry
  ramp := rampEntry

end Sys2Proof.Machine
end

