-- ==== Sys2Proof/Machine/Operands.lean ====
section
/-! DEFINITION. How the host port's data field becomes a register's value and back (30 R110): a register of width `n` takes
`data[n-1:0]`, a current register `min(data[7:0], 100)`, and a read zero-extends. -/

namespace Sys2Proof.Machine

/-- `data[n-1:0]`, the bits above ignored (30 R110). -/
def lowBits (n : Nat) (data : Data) : BitVec n := data.extractLsb' 0 n

/-- `min(data[7:0], 100)`, what a current register takes (30 R110; 42 R190). -/
def clampCurrent (data : Data) : BitVec 7 :=
  BitVec.ofNat 7 (min (lowBits 8 data).toNat hardware.curOne)

/-- `zext_32(value)`, what a read returns (30 R110). -/
def zext32 {n : Nat} (v : BitVec n) : Data := v.setWidth 32

end Sys2Proof.Machine
end

