-- ==== Sys2Proof/Machine/Ops.lean ====
section
/-! DEFINITION. The shared operations: the axis a state holds, the helpers `WriteDuty`, `Complete`, `Advance` and `SpinCount`
(41 R151 to R154), the shape of a cruise and of a creep tick, the update event and the taking of the tick interrupt. The
operations of an axis take the configuration and the axis' reversal flag, and give an axis: what they can touch is `ax[m]`
and `PWM_CCR[m]` alone (41 R150). -/

namespace Sys2Proof.Machine

/-! ### The axes of a state -/

/-- `ax[m]` (10 R20). -/
def State.axis (s : State) : Axis → AxisState
  | .zero => s.ax0
  | .one => s.ax1

/-- The state with `ax[m]` replaced. -/
def State.setAxis (s : State) (m : Axis) (a : AxisState) : State :=
  match m with
  | .zero => { s with ax0 := a }
  | .one => { s with ax1 := a }

/-- `REV[m]` (10 R34). -/
def State.rev (s : State) : Axis → Bool
  | .zero => s.rev0
  | .one => s.rev1

/-- `OFF[m][1]`: 1200, or 2400 when the axis is reversed (10 R34). -/
def offsetA (c : Config) (rev : Bool) : Nat := if rev then c.off240 else c.off120

/-- `OFF[m][2]`: 2400, or 1200 when the axis is reversed (10 R34). -/
def offsetB (c : Config) (rev : Bool) : Nat := if rev then c.off120 else c.off240

/-! ### The helpers of the stage actions -/

/-- `floor(cur * WAVE[i] / 100)` (41 R151). -/
def duty (c : Config) (cur : BitVec 7) (i : Nat) : BitVec 16 :=
  BitVec.ofNat 16 (cur.toNat * c.wave i / c.curOne)

/-- `WriteDuty(m, cur)`: the three phase duties at the current phase angle; the index is not reduced (41 R151; 20 R73). -/
def writeDuty (c : Config) (rev : Bool) (cur : BitVec 7) (a : AxisState) : AxisState :=
  { a with
    pwmCcr0 := duty c cur a.phaseAngle.toNat
    pwmCcr1 := duty c cur (a.phaseAngle.toNat + offsetA c rev)
    pwmCcr2 := duty c cur (a.phaseAngle.toNat + offsetB c rev) }

/-- `Complete(m, b)`: clear the stage's bit; an axis that becomes idle drops to `CUR_DROP` (41 R152). -/
def complete (c : Config) (rev : Bool) (b : Nat) (a : AxisState) : AxisState :=
  if clearStageBit a.motionFlags b = 0#8 then
    writeDuty c rev a.curDrop { a with motionFlags := clearStageBit a.motionFlags b }
  else { a with motionFlags := clearStageBit a.motionFlags b }

/-- `Advance(m, d)`: `(phase_angle + d) mod 3600` with the mathematical remainder (41 R153; 00 R10). -/
def advance (c : Config) (d : Int) (a : AxisState) : AxisState :=
  { a with phaseAngle := BitVec.ofNat 12 (((a.phaseAngle.toNat : Int) + d) % (c.phaseMod : Int)).toNat }

/-- Whether this tick ends a ramp step: `spin_subcount + 1 >= SPIN_PERIOD` (41 R154). -/
def rampStepDue (spinPeriod : BitVec 8) (a : AxisState) : Bool :=
  decide (spinPeriod.toNat ≤ a.spinSubcount.toNat + 1)

/-- The ramp pointer moved up one entry, held at the top (41 R154). -/
def pointerUp (c : Config) (p : BitVec 6) : BitVec 6 := if p.toNat < c.rampTop then p + 1#6 else p

/-- The ramp pointer moved down one entry, held at 0 (41 R154). -/
def pointerDown (p : BitVec 6) : BitVec 6 := if 0 < p.toNat then p - 1#6 else p

/-- `SpinCount(m, true, b)` (41 R154). -/
def spinCountUp (c : Config) (rev : Bool) (spinPeriod : BitVec 8) (b : Nat) (a : AxisState) : AxisState :=
  if rampStepDue spinPeriod a then
    if (pointerUp c a.spinPointer).toNat = c.rampTop then
      complete c rev b { a with spinSubcount := 0#8, spinPointer := pointerUp c a.spinPointer }
    else { a with spinSubcount := 0#8, spinPointer := pointerUp c a.spinPointer }
  else { a with spinSubcount := a.spinSubcount + 1#8 }

/-- `SpinCount(m, false, b)` (41 R154). -/
def spinCountDown (c : Config) (rev : Bool) (spinPeriod : BitVec 8) (b : Nat) (a : AxisState) : AxisState :=
  if rampStepDue spinPeriod a then
    if pointerDown a.spinPointer = 0#6 then
      complete c rev b { a with spinSubcount := 0#8, spinPointer := pointerDown a.spinPointer }
    else { a with spinSubcount := 0#8, spinPointer := pointerDown a.spinPointer }
  else { a with spinSubcount := a.spinSubcount + 1#8 }

/-- A spin-up tick in the direction `sgn`: the increment is read at the pointer's value on entry (41 R155, R158). -/
def spinUpTick (c : Config) (rev : Bool) (spinPeriod : BitVec 8) (sgn : Int) (b : Nat) (a : AxisState) : AxisState :=
  spinCountUp c rev spinPeriod b
    (writeDuty c rev a.curSpinup (advance c (sgn * (c.ramp a.spinPointer.toNat : Int)) a))

/-- A spin-down tick in the direction `sgn` (41 R157, R160). -/
def spinDownTick (c : Config) (rev : Bool) (spinPeriod : BitVec 8) (sgn : Int) (b : Nat) (a : AxisState) : AxisState :=
  spinCountDown c rev spinPeriod b
    (writeDuty c rev a.curSpindown (advance c (sgn * (c.ramp a.spinPointer.toNat : Int)) a))

/-- The counting part (c) of a cruise tick (41 R156, R159). -/
def cruiseCount (c : Config) (rev : Bool) (b : Nat) (a : AxisState) : AxisState :=
  if a.cruiseSteps - 1#32 = 0#32 then complete c rev b { a with cruiseSteps := a.cruiseSteps - 1#32 }
  else { a with cruiseSteps := a.cruiseSteps - 1#32 }

/-- A cruise tick in the direction `sgn`; a count of 0 completes without motion (41 R156, R159). -/
def cruiseTick (c : Config) (rev : Bool) (sgn : Int) (b : Nat) (a : AxisState) : AxisState :=
  if a.cruiseSteps = 0#32 then complete c rev b a
  else cruiseCount c rev b (writeDuty c rev a.curCruise (advance c (sgn * (c.cruiseInc : Int)) a))

/-- Whether this tick makes a creep step: `creep_subcount + 1 >= CREEP_PERIOD` (41 R161). -/
def creepStepDue (a : AxisState) : Bool := decide (a.creepPeriod.toNat ≤ a.creepSubcount.toNat + 1)

/-- The sub-count after an active creep tick (41 R161). -/
def countCreepTick (a : AxisState) : AxisState :=
  { a with creepSubcount := if creepStepDue a then 0#8 else a.creepSubcount + 1#8 }

/-- The scalar 1.0 as a current register holds it (10 R31). -/
def fullCurrent (c : Config) : BitVec 7 := BitVec.ofNat 7 c.curOne

/-- The bump of the CW creep: in the last `BUMP_WINDOW` steps, if enabled, the operating current is forced to 1.0; the test
is made on the counter's value on entry (41 R162). -/
def bumpCwCreep (c : Config) (a : AxisState) : AxisState :=
  if decide (a.cwCreepSteps.toNat ≤ c.bumpWindow) && bumpCw a.bump then { a with cwCreepCurOp := fullCurrent c } else a

/-- The bump of the CCW creep (41 R161). -/
def bumpCcwCreep (c : Config) (a : AxisState) : AxisState :=
  if decide (a.ccwCreepSteps.toNat ≤ c.bumpWindow) && bumpCcw a.bump then { a with ccwCreepCurOp := fullCurrent c } else a

/-- The counting part (c) of a CW creep step (41 R162). -/
def cwCreepCount (c : Config) (rev : Bool) (a : AxisState) : AxisState :=
  if a.cwCreepSteps - 1#32 = 0#32 then complete c rev 0 { a with cwCreepSteps := a.cwCreepSteps - 1#32 }
  else { a with cwCreepSteps := a.cwCreepSteps - 1#32 }

/-- The counting part (c) of a CCW creep step (41 R161). -/
def ccwCreepCount (c : Config) (rev : Bool) (a : AxisState) : AxisState :=
  if a.ccwCreepSteps - 1#32 = 0#32 then complete c rev 1 { a with ccwCreepSteps := a.ccwCreepSteps - 1#32 }
  else { a with ccwCreepSteps := a.ccwCreepSteps - 1#32 }

/-! ### The update event and the tick interrupt -/

/-- An update event sets `UIF` and does nothing else; events coalesce (40 R131). -/
def updateEvent (s : State) : State := { s with uif := true }

/-- Taking the block's one interrupt: the handler's first action clears the pending bit; nothing is saved, no mode changes
and no address is gone to (40 R136; 60 R235). -/
def takeTickInterrupt (s : State) : State := { s with uif := false }

/-- The end of the handler: there is no return instruction, nothing is restored and the enable is not touched (60 R236). -/
def endTickInterrupt (s : State) : State := s

end Sys2Proof.Machine
end

