-- ==== Sys2Proof/Machine/HostPort.lean ====
section
/-! DEFINITION. The host port: `RegRead` and the write of each register (42 R180 to R197; 30 R106 to R111). -/

namespace Sys2Proof.Machine

/-- The register of an axis at offset `r`, zero-extended; 0 at a reserved offset (30 R109, R111). -/
def axisRegRead (a : AxisState) (r : BitVec 5) : Data :=
  match r.toNat with
  | 0x00 => zext32 a.shadowFlags
  | 0x01 => zext32 a.motionFlags
  | 0x02 => zext32 a.phaseAngle
  | 0x03 => zext32 a.spinPointer
  | 0x04 => zext32 a.spinSubcount
  | 0x05 => zext32 a.cruiseSteps
  | 0x06 => zext32 a.cwCreepSteps
  | 0x07 => zext32 a.ccwCreepSteps
  | 0x08 => zext32 a.curSpinup
  | 0x09 => zext32 a.curCruise
  | 0x0A => zext32 a.curSpindown
  | 0x0B => zext32 a.curCreep
  | 0x0C => zext32 a.curDrop
  | 0x0D => zext32 a.creepPeriod
  | 0x0E => zext32 a.bump
  | 0x0F => zext32 a.creepSubcount
  | 0x10 => zext32 a.cwCreepCurOp
  | 0x11 => zext32 a.ccwCreepCurOp
  | 0x12 => zext32 a.pwmCcr0
  | 0x13 => zext32 a.pwmCcr1
  | 0x14 => zext32 a.pwmCcr2
  | _ => 0#32

/-- The global register number `r`, zero-extended; 0 at a reserved number (30 R108, R111). -/
def globalRegRead (s : State) (r : BitVec 6) : Data :=
  match r.toNat with
  | 0x00 => zext32 (timCtrlWord s.cen s.uie)
  | 0x01 => zext32 s.timPeriod
  | 0x02 => zext32 (BitVec.ofBool s.uif)
  | 0x03 => zext32 s.commit
  | 0x04 => zext32 s.spinPeriod
  | _ => 0#32

/-- `RegRead(addr)` (42 R181). -/
def regRead (s : State) (addr : HostAddr) : Data :=
  if addr.getLsbD 6 then axisRegRead (s.axis (axisOfBit (addr.getLsbD 5))) (addr.extractLsb' 0 5)
  else globalRegRead s (addr.extractLsb' 0 6)

/-- `RD addr` returns the register's value to the host and changes nothing of the block (42 R181). -/
def execRd (addr : HostAddr) (s : State) : Host.Outcome State Fault Refusal :=
  .next { s with readData := some (regRead s addr) }

/-! ### Global registers -/

/-- `WR TIM_CTRL` (42 R182). -/
def execWrTimCtrl (data : Data) (s : State) : Host.Outcome State Fault Refusal :=
  .next { s with cen := data.getLsbD 0, uie := data.getLsbD 1 }

/-- `WR TIM_PERIOD` (42 R183). -/
def execWrTimPeriod (data : Data) (s : State) : Host.Outcome State Fault Refusal :=
  .next { s with timPeriod := lowBits 16 data }

/-- `WR COMMIT` sets bits only (42 R184). -/
def execWrCommit (data : Data) (s : State) : Host.Outcome State Fault Refusal :=
  .next { s with commit := s.commit ||| lowBits 2 data }

/-- `WR SPIN_PERIOD` (42 R185). -/
def execWrSpinPeriod (data : Data) (s : State) : Host.Outcome State Fault Refusal :=
  .next { s with spinPeriod := lowBits 8 data }

/-! ### Axis registers -/

/-- `WR SHADOW_FLAGS[m]` (42 R186). -/
def execWrShadowFlags (m : Axis) (data : Data) (s : State) : Host.Outcome State Fault Refusal :=
  .next (s.setAxis m { s.axis m with shadowFlags := lowBits 8 data })

/-- `WR CRUISE_STEPS[m]` (42 R187). -/
def execWrCruiseSteps (m : Axis) (data : Data) (s : State) : Host.Outcome State Fault Refusal :=
  .next (s.setAxis m { s.axis m with cruiseSteps := lowBits 32 data })

/-- `WR CW_CREEP_STEPS[m]` (42 R188). -/
def execWrCwCreepSteps (m : Axis) (data : Data) (s : State) : Host.Outcome State Fault Refusal :=
  .next (s.setAxis m { s.axis m with cwCreepSteps := lowBits 32 data })

/-- `WR CCW_CREEP_STEPS[m]` (42 R189). -/
def execWrCcwCreepSteps (m : Axis) (data : Data) (s : State) : Host.Outcome State Fault Refusal :=
  .next (s.setAxis m { s.axis m with ccwCreepSteps := lowBits 32 data })

/-- `WR CUR_SPINUP[m]` (42 R190). -/
def execWrCurSpinup (m : Axis) (data : Data) (s : State) : Host.Outcome State Fault Refusal :=
  .next (s.setAxis m { s.axis m with curSpinup := clampCurrent data })

/-- `WR CUR_CRUISE[m]` (42 R191). -/
def execWrCurCruise (m : Axis) (data : Data) (s : State) : Host.Outcome State Fault Refusal :=
  .next (s.setAxis m { s.axis m with curCruise := clampCurrent data })

/-- `WR CUR_SPINDOWN[m]` (42 R192). -/
def execWrCurSpindown (m : Axis) (data : Data) (s : State) : Host.Outcome State Fault Refusal :=
  .next (s.setAxis m { s.axis m with curSpindown := clampCurrent data })

/-- `WR CUR_CREEP[m]`; the operating copies are not written (42 R193). -/
def execWrCurCreep (m : Axis) (data : Data) (s : State) : Host.Outcome State Fault Refusal :=
  .next (s.setAxis m { s.axis m with curCreep := clampCurrent data })

/-- `WR CUR_DROP[m]` (42 R194). -/
def execWrCurDrop (m : Axis) (data : Data) (s : State) : Host.Outcome State Fault Refusal :=
  .next (s.setAxis m { s.axis m with curDrop := clampCurrent data })

/-- `WR CREEP_PERIOD[m]` (42 R195). -/
def execWrCreepPeriod (m : Axis) (data : Data) (s : State) : Host.Outcome State Fault Refusal :=
  .next (s.setAxis m { s.axis m with creepPeriod := lowBits 8 data })

/-- `WR BUMP[m]` (42 R196). -/
def execWrBump (m : Axis) (data : Data) (s : State) : Host.Outcome State Fault Refusal :=
  .next (s.setAxis m { s.axis m with bump := lowBits 2 data })

/-- A write to a read-only or reserved address: no state changes and nothing is signalled (42 R197). -/
def execWrIgnored (_addr : HostAddr) (_data : Data) (s : State) : Host.Outcome State Fault Refusal :=
  .next s

end Sys2Proof.Machine
end

