-- ==== Sys2Proof/Machine/CommandLayer.lean ====
section
/-! DEFINITION. The command layer's four commands that touch the block (43 R210 to R215). A handler issues host
transactions; each takes effect when the port serves it, so ticks can fall between them (20 R88). -/

namespace Sys2Proof.Machine

/-- The address of a current register (30 R109). -/
def currentAddr (m : Axis) : CurrentReg → HostAddr
  | .spinup => axisAddr m 0x08#5
  | .cruise => axisAddr m 0x09#5
  | .spindown => axisAddr m 0x0A#5
  | .creep => axisAddr m 0x0B#5
  | .drop => axisAddr m 0x0C#5

/-- The address of a step counter (30 R109). -/
def counterAddr (m : Axis) : StepCounter → HostAddr
  | .cruise => axisAddr m 0x05#5
  | .cwCreep => axisAddr m 0x06#5
  | .ccwCreep => axisAddr m 0x07#5

/-- The host transactions `ws` issued after those already issued (20 R89). -/
def issue (ws : List HostWord) (s : State) : State := { s with hostQueue := s.hostQueue ++ ws }

/-- `SHADOW_FLAGS[m]` after one more host transaction. -/
def shadowAfter (m : Axis) (shadow : StageWord) (w : HostWord) : StageWord :=
  if hostWrite w ∧ hostAddr w = axisAddr m 0x00#5 then lowBits 8 (hostData w) else shadow

/-- `SHADOW_FLAGS[m]` as it will stand when every issued transaction has been served: only the host writes it (10 R23). -/
def issuedShadow (m : Axis) (s : State) : StageWord := s.hostQueue.foldl (shadowAfter m) (s.axis m).shadowFlags

/-- `CMD4_SELECT`: the source fixes the value 0, motor 0 CW creep (43 R214); every other is OPEN (entry 20). -/
def cmd4Select (select : Byte) : Option MoveTarget :=
  if select = 0#8 then some ⟨.zero, some .cwCreep, 0x01#8⟩ else Config.cmd4SelectOther select

/-- The 24-bit step count, zero-extended; its byte order is OPEN (43 R214; entry 20). -/
def cmd4Count (c1 c2 c3 : Byte) : Data :=
  if Config.cmd4BigEndian then (c1 ++ c2 ++ c3).setWidth 32 else (c3 ++ c2 ++ c1).setWidth 32

/-- The shadow word command 4 writes: ORed into the word so far or replacing it, OPEN (43 R214; entry 20). -/
def cmd4Shadow (flags shadow : StageWord) : StageWord :=
  if Config.cmd4OrsShadow then shadow ||| flags else flags

/-- The write of the count, for a stage that has a counter (43 R214). -/
def countWrites (t : MoveTarget) (count : Data) : List HostWord :=
  match t.counter with
  | some k => [writeWord (counterAddr t.axis k) count]
  | none => []

/-- The accesses of command 4 for a target: the count, then the shadow word (43 R214, R219; entry 21). -/
def moveWrites (t : MoveTarget) (count : Data) (s : State) : List HostWord :=
  countWrites t count ++ [writeWord (axisAddr t.axis 0x00#5) (zext32 (cmd4Shadow t.flags (issuedShadow t.axis s)))]

/-- The writes of one payload byte of command 2: unchanged to each register `CMD2_MAP` gives it (43 R212; entry 19). -/
def currentWrites (k : Nat) (b : Byte) : List HostWord :=
  (Config.cmd2Map k).map fun r => writeWord (currentAddr r.1 r.2) (zext32 b)

/-- The handler of command 2 (43 R212). -/
def handleSetCurrents (b0 b1 b2 b3 b4 b5 b6 b7 : Byte) (s : State) : State :=
  issue (currentWrites 0 b0 ++ currentWrites 1 b1 ++ currentWrites 2 b2 ++ currentWrites 3 b3 ++
    currentWrites 4 b4 ++ currentWrites 5 b5 ++ currentWrites 6 b6 ++ currentWrites 7 b7) s

/-- The handler of command 3: `CREEP_PERIOD[0]`, `CREEP_PERIOD[1]`, `SPIN_PERIOD` (43 R213). -/
def handleSetPeriods (creep0 creep1 spin : Byte) (s : State) : State :=
  issue [writeWord (axisAddr .zero 0x0D#5) (zext32 creep0), writeWord (axisAddr .one 0x0D#5) (zext32 creep1),
    writeWord (globalAddr 0x04#6) (zext32 spin)] s

/-- The handler of command 4; the post-pause has no state in the block (43 R214). -/
def handleQueueMove (select c1 c2 c3 : Byte) (s : State) : State :=
  match cmd4Select select with
  | some t => issue (moveWrites t (cmd4Count c1 c2 c3) s) s
  | none => s

/-- The handler of a buffered command. An execute command is a trigger and is never buffered (43 R215). -/
def handle (s : State) (c : Command) : State :=
  match c with
  | .setCurrents b0 b1 b2 b3 b4 b5 b6 b7 => handleSetCurrents b0 b1 b2 b3 b4 b5 b6 b7 s
  | .setPeriods creep0 creep1 spin => handleSetPeriods creep0 creep1 spin s
  | .queueMove select c1 c2 c3 _ _ => handleQueueMove select c1 c2 c3 s
  | .execute => s

/-- The commit bit of the axis a command loads a move into; commands 2 and 3 load none (43 R215; entry 22). -/
def loadedAxis : Command → BitVec 2
  | .setCurrents .. => 0b00#2
  | .setPeriods .. => 0b00#2
  | .queueMove select _ _ _ _ _ =>
    match cmd4Select select with
    | some t => commitMask t.axis
    | none => 0b00#2
  | .execute => 0b00#2

/-- The commit mask of a move table: a bit for each axis it loads (43 R215). -/
def tableMask (table : List Command) : BitVec 2 := table.foldl (fun mask c => mask ||| loadedAxis c) 0b00#2

/-- What the table is after its replay, OPEN (entry 22). -/
def tableAfterReplay (table : List Command) : List Command := if Config.cmd7KeepsTable then table else []

/-- The replay of the move table: the handlers in order, then the commit (43 R215). An empty table has no effect
(43 R216). -/
def replayTable (s : State) : State :=
  if s.moveTable = [] then s
  else
    { issue [writeWord (globalAddr 0x03#6) (zext32 (tableMask s.moveTable))] (s.moveTable.foldl handle s) with
      moveTable := tableAfterReplay s.moveTable }

/-- The dispatcher buffers a command (43 R211). -/
def bufferCommand (c : Command) (s : State) : State := { s with moveTable := s.moveTable ++ [c] }

/-- The dispatcher discards the move table, whose checksum does not match (43 R216). -/
def discardTable (s : State) : State := { s with moveTable := [] }

/-! ### The instructions -/

/-- `CMD2_SET_CURRENTS` (43 R212). -/
def execCmd2SetCurrents (b0 b1 b2 b3 b4 b5 b6 b7 : Byte) (s : State) : Host.Outcome State Fault Refusal :=
  .next (handleSetCurrents b0 b1 b2 b3 b4 b5 b6 b7 s)

/-- `CMD3_SET_PERIODS` (43 R213). -/
def execCmd3SetPeriods (creep0 creep1 spin : Byte) (s : State) : Host.Outcome State Fault Refusal :=
  .next (handleSetPeriods creep0 creep1 spin s)

/-- `CMD4_QUEUE_MOVE` (43 R214). -/
def execCmd4QueueMove (select c1 c2 c3 _p4 _p5 : Byte) (s : State) : Host.Outcome State Fault Refusal :=
  .next (handleQueueMove select c1 c2 c3 s)

/-- `CMD7_EXECUTE` (43 R215). -/
def execCmd7Execute (s : State) : Host.Outcome State Fault Refusal := .next (replayTable s)

end Sys2Proof.Machine
end

