-- ==== Sys2Proof/Machine/Stages.lean ====
section
/-! DEFINITION. The nine stage actions (41 R155 to R163), each on one axis, and the instructions that run one of them. -/

namespace Sys2Proof.Machine

/-- `CW_SPINUP` (41 R155). -/
def cwSpinup (c : Config) (rev : Bool) (spinPeriod : BitVec 8) (a : AxisState) : AxisState :=
  spinUpTick c rev spinPeriod 1 7 a

/-- `CW_CRUISE` (41 R156). -/
def cwCruise (c : Config) (rev : Bool) (a : AxisState) : AxisState := cruiseTick c rev 1 6 a

/-- `CW_SPINDOWN` (41 R157). -/
def cwSpindown (c : Config) (rev : Bool) (spinPeriod : BitVec 8) (a : AxisState) : AxisState :=
  spinDownTick c rev spinPeriod 1 5 a

/-- `CCW_SPINUP` (41 R158). -/
def ccwSpinup (c : Config) (rev : Bool) (spinPeriod : BitVec 8) (a : AxisState) : AxisState :=
  spinUpTick c rev spinPeriod (-1) 4 a

/-- `CCW_CRUISE` (41 R159). -/
def ccwCruise (c : Config) (rev : Bool) (a : AxisState) : AxisState := cruiseTick c rev (-1) 3 a

/-- `CCW_SPINDOWN` (41 R160). -/
def ccwSpindown (c : Config) (rev : Bool) (spinPeriod : BitVec 8) (a : AxisState) : AxisState :=
  spinDownTick c rev spinPeriod (-1) 2 a

/-- An active tick of the CCW creep: count the tick, step when due, write the duties in any case (41 R161). -/
def ccwCreepActive (c : Config) (rev : Bool) (a : AxisState) : AxisState :=
  if creepStepDue a then
    ccwCreepCount c rev (writeDuty c rev a.ccwCreepCurOp (advance c (-(c.creepInc : Int)) (countCreepTick a)))
  else writeDuty c rev a.ccwCreepCurOp (countCreepTick a)

/-- `CCW_CREEP` (41 R161). -/
def ccwCreep (c : Config) (rev : Bool) (a : AxisState) : AxisState :=
  if a.ccwCreepSteps = 0#32 then complete c rev 1 a else ccwCreepActive c rev (bumpCcwCreep c a)

/-- An active tick of the CW creep (41 R162). -/
def cwCreepActive (c : Config) (rev : Bool) (a : AxisState) : AxisState :=
  if creepStepDue a then
    cwCreepCount c rev (writeDuty c rev a.cwCreepCurOp (advance c (c.creepInc : Int) (countCreepTick a)))
  else writeDuty c rev a.cwCreepCurOp (countCreepTick a)

/-- `CW_CREEP` (41 R162). -/
def cwCreep (c : Config) (rev : Bool) (a : AxisState) : AxisState :=
  if a.cwCreepSteps = 0#32 then complete c rev 0 a else cwCreepActive c rev (bumpCwCreep c a)

/-- `IDLE` (41 R163). -/
def idle (a : AxisState) : AxisState := a

/-- The action of a stage (30 R102; 41 R150). -/
def stageAction (c : Config) (rev : Bool) (spinPeriod : BitVec 8) (st : Stage) (a : AxisState) : AxisState :=
  match st with
  | .cwSpinup => cwSpinup c rev spinPeriod a
  | .cwCruise => cwCruise c rev a
  | .cwSpindown => cwSpindown c rev spinPeriod a
  | .ccwSpinup => ccwSpinup c rev spinPeriod a
  | .ccwCruise => ccwCruise c rev a
  | .ccwSpindown => ccwSpindown c rev spinPeriod a
  | .ccwCreep => ccwCreep c rev a
  | .cwCreep => cwCreep c rev a
  | .idle => idle a

/-! ### The instructions -/

/-- `CW_SPINUP` of axis `m` (41 R155). -/
def execCwSpinup (m : Axis) (s : State) : Host.Outcome State Fault Refusal :=
  .next (s.setAxis m (cwSpinup hardware (s.rev m) s.spinPeriod (s.axis m)))

/-- `CW_CRUISE` of axis `m` (41 R156). -/
def execCwCruise (m : Axis) (s : State) : Host.Outcome State Fault Refusal :=
  .next (s.setAxis m (cwCruise hardware (s.rev m) (s.axis m)))

/-- `CW_SPINDOWN` of axis `m` (41 R157). -/
def execCwSpindown (m : Axis) (s : State) : Host.Outcome State Fault Refusal :=
  .next (s.setAxis m (cwSpindown hardware (s.rev m) s.spinPeriod (s.axis m)))

/-- `CCW_SPINUP` of axis `m` (41 R158). -/
def execCcwSpinup (m : Axis) (s : State) : Host.Outcome State Fault Refusal :=
  .next (s.setAxis m (ccwSpinup hardware (s.rev m) s.spinPeriod (s.axis m)))

/-- `CCW_CRUISE` of axis `m` (41 R159). -/
def execCcwCruise (m : Axis) (s : State) : Host.Outcome State Fault Refusal :=
  .next (s.setAxis m (ccwCruise hardware (s.rev m) (s.axis m)))

/-- `CCW_SPINDOWN` of axis `m` (41 R160). -/
def execCcwSpindown (m : Axis) (s : State) : Host.Outcome State Fault Refusal :=
  .next (s.setAxis m (ccwSpindown hardware (s.rev m) s.spinPeriod (s.axis m)))

/-- `CCW_CREEP` of axis `m` (41 R161). -/
def execCcwCreep (m : Axis) (s : State) : Host.Outcome State Fault Refusal :=
  .next (s.setAxis m (ccwCreep hardware (s.rev m) (s.axis m)))

/-- `CW_CREEP` of axis `m` (41 R162). -/
def execCwCreep (m : Axis) (s : State) : Host.Outcome State Fault Refusal :=
  .next (s.setAxis m (cwCreep hardware (s.rev m) (s.axis m)))

/-- `IDLE` of axis `m` (41 R163). -/
def execIdle (m : Axis) (s : State) : Host.Outcome State Fault Refusal :=
  .next (s.setAxis m (idle (s.axis m)))

end Sys2Proof.Machine
end

