-- ==== Sys2Proof/Machine/Engine.lean ====
section
/-! DEFINITION. The timer's clock and the TICK handler (40 R130 to R141). -/

namespace Sys2Proof.Machine

/-! ### The update timer -/

/-- Whether the next clock ends the period: `CNT + 1 >= TIM_PERIOD` (40 R130). -/
def periodEnds (s : State) : Bool := decide (s.timPeriod.toNat ≤ s.cnt.toNat + 1)

/-- One timer clock (40 R130). -/
def timerClock (s : State) : State :=
  if s.cen then
    if periodEnds s then updateEvent { s with cnt := 0#16 } else { s with cnt := s.cnt + 1#16 }
  else s

/-- One update event of the untimed view, enabled when `CEN = 1` (40 R134). -/
def untimedEvent (s : State) : State := if s.cen then updateEvent s else s

/-! ### The handler -/

/-- The stage action `AxisTick(m)` runs on an axis: the decode uses the word at the start of the axis tick (40 R137). -/
def axisTick (c : Config) (rev : Bool) (spinPeriod : BitVec 8) (a : AxisState) : AxisState :=
  stageAction c rev spinPeriod (decodeStage a.motionFlags) a

/-- `AxisTick(m)` (40 R137). -/
def tickAxis (m : Axis) (s : State) : State :=
  s.setAxis m (axisTick hardware (s.rev m) s.spinPeriod (s.axis m))

/-- What the hand-off does to a committed axis (40 R139, R140). -/
def handoff (a : AxisState) : AxisState :=
  { a with
    motionFlags := a.shadowFlags
    cwCreepCurOp := a.curCreep
    ccwCreepCurOp := a.curCreep }

/-- The hand-off of one axis, if its commit bit is set (40 R139). -/
def handoffAxis (m : Axis) (s : State) : State :=
  if commitBit m s.commit then s.setAxis m (handoff (s.axis m)) else s

/-- `CommitHandoff()` (40 R139). -/
def commitHandoff (s : State) : State :=
  { handoffAxis .one (handoffAxis .zero s) with commit := 0#2 }

/-- `TICK()`: clear pending, axis 0, axis 1, commit hand-off, in one atomic step (40 R135; 20 R87). -/
def tickHandler (s : State) : State :=
  endTickInterrupt (commitHandoff (tickAxis .one (tickAxis .zero (takeTickInterrupt s))))

/-- `TICK` (40 R135). -/
def execTick (s : State) : Host.Outcome State Fault Refusal := .next (tickHandler s)

end Sys2Proof.Machine
end

