-- ==== Sys2Proof/Machine/Dispatch.lean ====
section
/-! DEFINITION. The meaning of each instruction, one arm a constructor. -/

namespace Sys2Proof.Machine

-- The meaning of an instruction.
def exec (i : Instr) (s : State) : Host.Outcome State Fault Refusal :=
  match i with
  | .cwSpinup m => Sys2Proof.Machine.execCwSpinup m s
  | .cwCruise m => Sys2Proof.Machine.execCwCruise m s
  | .cwSpindown m => Sys2Proof.Machine.execCwSpindown m s
  | .ccwSpinup m => Sys2Proof.Machine.execCcwSpinup m s
  | .ccwCruise m => Sys2Proof.Machine.execCcwCruise m s
  | .ccwSpindown m => Sys2Proof.Machine.execCcwSpindown m s
  | .ccwCreep m => Sys2Proof.Machine.execCcwCreep m s
  | .cwCreep m => Sys2Proof.Machine.execCwCreep m s
  | .idle m => Sys2Proof.Machine.execIdle m s
  | .tick => Sys2Proof.Machine.execTick s
  | .rd addr => Sys2Proof.Machine.execRd addr s
  | .wrTimCtrl data => Sys2Proof.Machine.execWrTimCtrl data s
  | .wrTimPeriod data => Sys2Proof.Machine.execWrTimPeriod data s
  | .wrCommit data => Sys2Proof.Machine.execWrCommit data s
  | .wrSpinPeriod data => Sys2Proof.Machine.execWrSpinPeriod data s
  | .wrShadowFlags m data => Sys2Proof.Machine.execWrShadowFlags m data s
  | .wrCruiseSteps m data => Sys2Proof.Machine.execWrCruiseSteps m data s
  | .wrCwCreepSteps m data => Sys2Proof.Machine.execWrCwCreepSteps m data s
  | .wrCcwCreepSteps m data => Sys2Proof.Machine.execWrCcwCreepSteps m data s
  | .wrCurSpinup m data => Sys2Proof.Machine.execWrCurSpinup m data s
  | .wrCurCruise m data => Sys2Proof.Machine.execWrCurCruise m data s
  | .wrCurSpindown m data => Sys2Proof.Machine.execWrCurSpindown m data s
  | .wrCurCreep m data => Sys2Proof.Machine.execWrCurCreep m data s
  | .wrCurDrop m data => Sys2Proof.Machine.execWrCurDrop m data s
  | .wrCreepPeriod m data => Sys2Proof.Machine.execWrCreepPeriod m data s
  | .wrBump m data => Sys2Proof.Machine.execWrBump m data s
  | .wrIgnored addr data => Sys2Proof.Machine.execWrIgnored addr data s
  | .cmd2SetCurrents b0 b1 b2 b3 b4 b5 b6 b7 => Sys2Proof.Machine.execCmd2SetCurrents b0 b1 b2 b3 b4 b5 b6 b7 s
  | .cmd3SetPeriods creep0 creep1 spin => Sys2Proof.Machine.execCmd3SetPeriods creep0 creep1 spin s
  | .cmd4QueueMove select c1 c2 c3 p4 p5 => Sys2Proof.Machine.execCmd4QueueMove select c1 c2 c3 p4 p5 s
  | .cmd7Execute => Sys2Proof.Machine.execCmd7Execute s

end Sys2Proof.Machine
end

