-- ==== Sys2Proof/Machine/Turns.lean ====
section
/-! DEFINITION. What one turn of an agent does: which instruction it fetches, from where, and the state it runs it in
(20 R86; 40 R132; 42 R180; 43 R211, R215; 70 R260). -/

namespace Sys2Proof.Machine

/-- Run the instruction a code stands for; a code that stands for none changes nothing (30 R112; 93 U10). -/
def runCode (c : Code) (s : State) : Host.Outcome State Fault Refusal :=
  match decode c with
  | .ok i => exec i s
  | .error _ => .next s

/-- The engine's turn: it runs the handler when its EVT word is `0b11` (30 R112; 40 R132). -/
def engineTurn (s : State) : Host.Outcome State Fault Refusal := runCode (.evt (evtWord s.uie s.uif)) s

/-- The port's turn: it serves the oldest access the host has issued, if any (20 R89). -/
def portTurn (s : State) : Host.Outcome State Fault Refusal :=
  match s.hostQueue with
  | [] => .next s
  | w :: rest => runCode (.host w) { s with hostQueue := rest }

/-- The host's turn: it issues an access after those already issued, and the port serves the oldest, which is that access when
nothing else waits. So accesses take effect in the order they are issued, whoever in the host issues them (20 R89). -/
def hostTurn (w : HostWord) (s : State) : Host.Outcome State Fault Refusal := portTurn (issue [w] s)

/-- The dispatcher receives a frame: a trigger is executed, any other command is buffered, and a frame that is no command is
ignored (43 R211, R215; 93 U10). -/
def receiveFrame (f : CanFrame) (s : State) : Host.Outcome State Fault Refusal :=
  match decodeCommand f with
  | .error _ => .next s
  | .ok .execute => runCode (.can f) s
  | .ok c => .next (bufferCommand c s)

/-- The dispatcher receives a single command that is executed at once: it is the last command of the buffered table, and the
table is executed with its commit. The execute command is itself the trigger, and a frame that is no command is ignored
(43 R215; 93 U10; entry 18). -/
def dispatchFrame (f : CanFrame) (s : State) : Host.Outcome State Fault Refusal :=
  match decodeCommand f with
  | .error _ => .next s
  | .ok .execute => runCode (.can f) s
  | .ok c => .next (replayTable (bufferCommand c s))

/-- The reset input: every register of the block takes its reset value; the straps, the tables and the agents outside the
block stay (70 R260 to R262; entry 10). -/
def resetBlock (s : State) : State :=
  { State.reset with
    rev0 := s.rev0
    rev1 := s.rev1
    turns := s.turns
    readData := s.readData
    hostQueue := s.hostQueue
    moveTable := s.moveTable }

/-- One turn of an agent. -/
def runTurn (t : Turn) (s : State) : Host.Outcome State Fault Refusal :=
  match t with
  | .clock => .next (timerClock s)
  | .event => .next (untimedEvent s)
  | .engine => engineTurn s
  | .host w => hostTurn w s
  | .port => portTurn s
  | .canReceive f => receiveFrame f s
  | .canDispatch f => dispatchFrame f s
  | .sync => .next (replayTable s)
  | .rejectTable => .next (discardTable s)
  | .reset => .next (resetBlock s)

/-- The turn taken when none is scheduled: the handler if it is due, else the host's oldest issued access, else a
timer clock (entry 2). -/
def defaultTurn (s : State) : Turn :=
  if s.uie && s.uif then .engine else if s.hostQueue = [] then .clock else .port

/-- One step of the machine: the next scheduled turn, or the default one (20 R86; entries 1 and 2). -/
def takeTurn (s : State) : Host.Outcome State Fault Refusal :=
  match s.turns with
  | [] => runTurn (defaultTurn s) s
  | t :: rest => runTurn t { s with turns := rest }

/-- The state in which the next step runs the instruction of a code: a stage word goes into its axis' `motion_flags` and an
update is made pending and enabled, since a stage action runs inside a tick (40 R137); an EVT word goes into `UIE` and `UIF`;
a HOST word is the oldest access issued, which the port serves; a CAN frame goes to the turn that presents it (entries 12,
13). -/
def placeCode (c : Code) (s : State) : State :=
  match c with
  | .stage m w =>
    { s.setAxis m { s.axis m with motionFlags := w } with uie := true, uif := true, turns := .engine :: s.turns }
  | .evt w => { s with uie := w.getLsbD 1, uif := w.getLsbD 0, turns := .engine :: s.turns }
  | .host w => { s with turns := .port :: s.turns, hostQueue := w :: s.hostQueue }
  | .can f => { s with turns := .canDispatch f :: s.turns }

/-- The state in which the next step runs a word of `spec/opcode_table.json`. -/
def placeTableWord (s : State) (nbits w : Nat) : State :=
  match tableCode nbits w with
  | some c => placeCode c s
  | none => s

end Sys2Proof.Machine
end

