-- ==== Sys2Proof/Machine/Step.lean ====
section
/-! DEFINITION. One step of the machine, and where a word is placed for the next step to run it. -/

namespace Sys2Proof.Machine

/-- One atomic step of one agent (20 R86). -/
def step (s : State) : Host.Outcome State Fault Refusal := takeTurn s

/-- The state whose next step fetches and runs an instruction word of the opcode table. -/
def State.withFetchWord (s : State) (nbits w : Nat) : State := placeTableWord s nbits w

end Sys2Proof.Machine
end

