-- ==== Sys2Proof/Safety.lean ====
section
/-! DEFINITION. What counts as a safe state of the block: the invariants of 10 R49, in the words claims use. -/

namespace Sys2Proof.Machine

/-- The invariants of one axis (10 R49), for a configuration. -/
structure AxisState.Inv (c : Config) (a : AxisState) : Prop where
  /-- `0 <= phase_angle <= 3599`. -/
  phase : a.phaseAngle.toNat < c.phaseMod
  /-- `0 <= spin_pointer <= 33`. -/
  pointer : a.spinPointer.toNat ≤ c.rampTop
  /-- `spin_subcount <= 254`. -/
  spinSub : a.spinSubcount.toNat ≤ 254
  /-- `creep_subcount <= 254`. -/
  creepSub : a.creepSubcount.toNat ≤ 254
  /-- The configured currents are at most 1.00. -/
  spinup : a.curSpinup.toNat ≤ c.curOne
  /-- See `spinup`. -/
  cruise : a.curCruise.toNat ≤ c.curOne
  /-- See `spinup`. -/
  spindown : a.curSpindown.toNat ≤ c.curOne
  /-- See `spinup`. -/
  creep : a.curCreep.toNat ≤ c.curOne
  /-- See `spinup`. -/
  drop : a.curDrop.toNat ≤ c.curOne
  /-- The operating creep currents are at most 1.00. -/
  cwOp : a.cwCreepCurOp.toNat ≤ c.curOne
  /-- See `cwOp`. -/
  ccwOp : a.ccwCreepCurOp.toNat ≤ c.curOne
  /-- `0 <= PWM_CCR[m][k] <= 4000`. -/
  ccr0 : a.pwmCcr0.toNat ≤ c.dutyMax
  /-- See `ccr0`. -/
  ccr1 : a.pwmCcr1.toNat ≤ c.dutyMax
  /-- See `ccr0`. -/
  ccr2 : a.pwmCcr2.toNat ≤ c.dutyMax

/-- Both axes meet the invariants (10 R49). -/
def State.Inv (s : State) : Prop := ∀ m : Axis, (s.axis m).Inv hardware

/-- The axis is idle: nothing active, nothing queued (41 R163). -/
def AxisState.Idle (a : AxisState) : Prop := a.motionFlags = 0#8

/-- The largest table index a state can form on an axis (20 R77). -/
def largestIndex (c : Config) (a : AxisState) : Nat := a.phaseAngle.toNat + c.off240

/-- The part of an axis only the engine writes (10 R50): another axis agrees with it there. -/
def AxisState.sameEngineOwned (a b : AxisState) : Prop :=
  a.phaseAngle = b.phaseAngle ∧ a.motionFlags = b.motionFlags ∧ a.spinPointer = b.spinPointer ∧
    a.spinSubcount = b.spinSubcount ∧ a.creepSubcount = b.creepSubcount ∧ a.cwCreepCurOp = b.cwCreepCurOp ∧
    a.ccwCreepCurOp = b.ccwCreepCurOp ∧ a.pwmCcr0 = b.pwmCcr0 ∧ a.pwmCcr1 = b.pwmCcr1 ∧ a.pwmCcr2 = b.pwmCcr2

/-- The part of an axis only the host writes (10 R50): another axis agrees with it there. -/
def AxisState.sameHostOwned (a b : AxisState) : Prop :=
  a.shadowFlags = b.shadowFlags ∧ a.curSpinup = b.curSpinup ∧ a.curCruise = b.curCruise ∧
    a.curSpindown = b.curSpindown ∧ a.curCreep = b.curCreep ∧ a.curDrop = b.curDrop ∧
    a.creepPeriod = b.creepPeriod ∧ a.bump = b.bump

end Sys2Proof.Machine
end

