-- ==== Sys2Proof/Certificates/Slice0/Obligations.lean ====
section
/-! DEFINITION. What is claimed of the model, one definition a claim, and the words the claims are written in. The values a
claim gives are written out from the spec's rules, not from the operations that compute them. -/

namespace Sys2Proof.Claim

open Sys2Proof.Machine

/-! ### Axes, duties and flags -/

/-- `OFF[m][k]` (10 R34), in numbers. -/
def offset (rev : Bool) (k : Fin 3) : Nat :=
  match k with
  | 0 => 0
  | 1 => if rev then 2400 else 1200
  | 2 => if rev then 1200 else 2400

/-- `PWM_CCR[m][k]`. -/
def compare (a : AxisState) (k : Fin 3) : BitVec 16 :=
  match k with
  | 0 => a.pwmCcr0
  | 1 => a.pwmCcr1
  | 2 => a.pwmCcr2

/-- The three compare registers hold `floor(cur * WAVE[phase_angle + OFF[m][k]] / 100)` (41 R151). -/
def DutiesAre (rev : Bool) (cur : Nat) (a : AxisState) : Prop :=
  ∀ k : Fin 3, (compare a k).toNat = cur * hardware.wave (a.phaseAngle.toNat + offset rev k) / 100

/-- No compare register is written. -/
def DutiesKept (a a' : AxisState) : Prop := ∀ k : Fin 3, compare a' k = compare a k

/-- `w'` is `w` with bit `b` cleared. -/
def BitCleared (b : Nat) (w w' : StageWord) : Prop := ∀ j : Fin 8, w'.getLsbD j = (w.getLsbD j && !decide (j.val = b))

/-- The stage goes on: its bit stays and the duties are at the stage's current. -/
def Stays (rev : Bool) (cur : Nat) (a a' : AxisState) : Prop :=
  a'.motionFlags = a.motionFlags ∧ DutiesAre rev cur a'

/-- The stage ends: its bit is cleared, and the duties are at the drop current if the axis became idle (41 R152). -/
def Ends (rev : Bool) (cur b : Nat) (a a' : AxisState) : Prop :=
  BitCleared b a.motionFlags a'.motionFlags ∧
    (a'.motionFlags ≠ 0#8 → DutiesAre rev cur a') ∧ (a'.motionFlags = 0#8 → DutiesAre rev a.curDrop.toNat a')

/-- The stage ends without having moved: only its bit, and the drop write of an axis that became idle. -/
def EndsEmpty (rev : Bool) (b : Nat) (a a' : AxisState) : Prop :=
  a'.phaseAngle = a.phaseAngle ∧ BitCleared b a.motionFlags a'.motionFlags ∧
    (a'.motionFlags ≠ 0#8 → DutiesKept a a') ∧ (a'.motionFlags = 0#8 → DutiesAre rev a.curDrop.toNat a')

/-- The phase moved by `d` units, modulo 3600. -/
def PhaseMoved (d : Int) (a a' : AxisState) : Prop :=
  (a'.phaseAngle.toNat : Int) = ((a.phaseAngle.toNat : Int) + d) % 3600

/-- What a tick of a spin stage does besides its pointer (41 R154, R155, R157). -/
structure SpinResult (rev : Bool) (spinPeriod : Nat) (sgn : Int) (cur b : Nat) (next stop : Nat) (a a' : AxisState) :
    Prop where
  /-- The increment is the ramp entry at the pointer's value on entry. -/
  phase : PhaseMoved (sgn * (hardware.ramp a.spinPointer.toNat : Int)) a a'
  /-- Not a `SPIN_PERIOD`-th tick: the tick is counted. -/
  waits : a.spinSubcount.toNat + 1 < spinPeriod →
    a'.spinSubcount.toNat = a.spinSubcount.toNat + 1 ∧ a'.spinPointer = a.spinPointer ∧ Stays rev cur a a'
  /-- A `SPIN_PERIOD`-th tick: the pointer moves, and the stage ends if the pointer is then at its end value. -/
  ramps : spinPeriod ≤ a.spinSubcount.toNat + 1 →
    a'.spinSubcount = 0#8 ∧ a'.spinPointer.toNat = next ∧
      (next ≠ stop → Stays rev cur a a') ∧ (next = stop → Ends rev cur b a a')
  /-- Every other field of the axis is unchanged. -/
  rest : a' = { a with
    phaseAngle := a'.phaseAngle, motionFlags := a'.motionFlags, spinPointer := a'.spinPointer,
    spinSubcount := a'.spinSubcount, pwmCcr0 := a'.pwmCcr0, pwmCcr1 := a'.pwmCcr1, pwmCcr2 := a'.pwmCcr2 }

/-- What a tick of a cruise stage does (41 R156, R159). -/
structure CruiseResult (rev : Bool) (sgn : Int) (b : Nat) (a a' : AxisState) : Prop where
  /-- A count of 0: the stage ends without motion and the counter stays 0. -/
  empty : a.cruiseSteps = 0#32 → a'.cruiseSteps = 0#32 ∧ EndsEmpty rev b a a'
  /-- Otherwise 33 units, one count, and the end of the stage with the last count. -/
  moves : a.cruiseSteps ≠ 0#32 →
    PhaseMoved (sgn * 33) a a' ∧ a'.cruiseSteps.toNat = a.cruiseSteps.toNat - 1 ∧
      (a'.cruiseSteps ≠ 0#32 → Stays rev a.curCruise.toNat a a') ∧
      (a'.cruiseSteps = 0#32 → Ends rev a.curCruise.toNat b a a')
  /-- Every other field of the axis is unchanged. -/
  rest : a' = { a with
    phaseAngle := a'.phaseAngle, motionFlags := a'.motionFlags, cruiseSteps := a'.cruiseSteps,
    pwmCcr0 := a'.pwmCcr0, pwmCcr1 := a'.pwmCcr1, pwmCcr2 := a'.pwmCcr2 }

/-- What a tick of a creep stage does to its counter `steps`, its operating current `op`, the phase, the sub-count and the
duties; `bumped` is its bump enable (41 R161, R162). -/
structure CreepResult (rev : Bool) (sgn : Int) (b : Nat) (steps : AxisState → BitVec 32) (op : AxisState → BitVec 7)
    (bumped : Bool) (a a' : AxisState) : Prop where
  /-- A count of 0: the stage ends without motion. -/
  empty : steps a = 0#32 →
    steps a' = 0#32 ∧ op a' = op a ∧ a'.creepSubcount = a.creepSubcount ∧ EndsEmpty rev b a a'
  /-- The bump: in the last 900 steps, tested on entry, if enabled. -/
  bump : steps a ≠ 0#32 → (op a').toNat = if (steps a).toNat ≤ 900 ∧ bumped = true then 100 else (op a).toNat
  /-- Not a `CREEP_PERIOD`-th tick: no step, but the duties are written. -/
  waits : steps a ≠ 0#32 → a.creepSubcount.toNat + 1 < a.creepPeriod.toNat →
    a'.creepSubcount.toNat = a.creepSubcount.toNat + 1 ∧ a'.phaseAngle = a.phaseAngle ∧ steps a' = steps a ∧
      Stays rev (op a').toNat a a'
  /-- A `CREEP_PERIOD`-th tick: one unit, one count, and the end of the stage with the last count. -/
  moves : steps a ≠ 0#32 → a.creepPeriod.toNat ≤ a.creepSubcount.toNat + 1 →
    a'.creepSubcount = 0#8 ∧ PhaseMoved sgn a a' ∧ (steps a').toNat = (steps a).toNat - 1 ∧
      (steps a' ≠ 0#32 → Stays rev (op a').toNat a a') ∧ (steps a' = 0#32 → Ends rev (op a').toNat b a a')

/-- The number of an axis, and of its commit bit (10 R20, R37). -/
def number : Axis → Nat
  | .zero => 0
  | .one => 1

/-- The commit bit of an axis, `COMMIT[m]` (10 R37). -/
def committed (m : Axis) (s : State) : Bool := s.commit.getLsbD (number m)

/-- One axis tick of this hardware. -/
def tickOf (rev : Bool) (spinPeriod : BitVec 8) (a : AxisState) : AxisState := axisTick hardware rev spinPeriod a

/-! ### The host's view -/

/-- `0x40 + 0x20 * m`, the address of an axis bank (30 R109). -/
def base : Axis → HostAddr
  | .zero => 0x40#7
  | .one => 0x60#7

/-- The axis register map (30 R109): address, and what a read of it returns. -/
def axisTable (at0 : HostAddr) (a : AxisState) : List (HostAddr × Data) := [
  (at0 + 0x00#7, a.shadowFlags.setWidth 32), (at0 + 0x01#7, a.motionFlags.setWidth 32),
  (at0 + 0x02#7, a.phaseAngle.setWidth 32), (at0 + 0x03#7, a.spinPointer.setWidth 32),
  (at0 + 0x04#7, a.spinSubcount.setWidth 32), (at0 + 0x05#7, a.cruiseSteps),
  (at0 + 0x06#7, a.cwCreepSteps), (at0 + 0x07#7, a.ccwCreepSteps),
  (at0 + 0x08#7, a.curSpinup.setWidth 32), (at0 + 0x09#7, a.curCruise.setWidth 32),
  (at0 + 0x0A#7, a.curSpindown.setWidth 32), (at0 + 0x0B#7, a.curCreep.setWidth 32),
  (at0 + 0x0C#7, a.curDrop.setWidth 32), (at0 + 0x0D#7, a.creepPeriod.setWidth 32),
  (at0 + 0x0E#7, a.bump.setWidth 32), (at0 + 0x0F#7, a.creepSubcount.setWidth 32),
  (at0 + 0x10#7, a.cwCreepCurOp.setWidth 32), (at0 + 0x11#7, a.ccwCreepCurOp.setWidth 32),
  (at0 + 0x12#7, a.pwmCcr0.setWidth 32), (at0 + 0x13#7, a.pwmCcr1.setWidth 32),
  (at0 + 0x14#7, a.pwmCcr2.setWidth 32)]

/-- The register map (30 R108, R109): 5 global registers and 21 of each axis. -/
def registerTable (s : State) : List (HostAddr × Data) :=
  [(0x00#7, (BitVec.ofBool s.uie ++ BitVec.ofBool s.cen).setWidth 32), (0x01#7, s.timPeriod.setWidth 32),
    (0x02#7, (BitVec.ofBool s.uif).setWidth 32), (0x03#7, s.commit.setWidth 32),
    (0x04#7, s.spinPeriod.setWidth 32)] ++ axisTable 0x40#7 s.ax0 ++ axisTable 0x60#7 s.ax1

/-- The write rows of an axis bank (30 R109): address and instruction. -/
def axisWriteRows (m : Axis) (d : Data) : List (HostAddr × Instr) := [
  (base m + 0x00#7, .wrShadowFlags m d), (base m + 0x05#7, .wrCruiseSteps m d),
  (base m + 0x06#7, .wrCwCreepSteps m d), (base m + 0x07#7, .wrCcwCreepSteps m d),
  (base m + 0x08#7, .wrCurSpinup m d), (base m + 0x09#7, .wrCurCruise m d),
  (base m + 0x0A#7, .wrCurSpindown m d), (base m + 0x0B#7, .wrCurCreep m d),
  (base m + 0x0C#7, .wrCurDrop m d), (base m + 0x0D#7, .wrCreepPeriod m d), (base m + 0x0E#7, .wrBump m d)]

/-- The write rows of the opcode table but the last: address and instruction (30 R108, R109). -/
def writeRows (d : Data) : List (HostAddr × Instr) :=
  [(0x00#7, .wrTimCtrl d), (0x01#7, .wrTimPeriod d), (0x03#7, .wrCommit d), (0x04#7, .wrSpinPeriod d)] ++
    axisWriteRows .zero d ++ axisWriteRows .one d

/-- The HOST word of a write, in numbers (30 R106). -/
def IsWrite (w : HostWord) (addr : HostAddr) (d : Data) : Prop :=
  w.toNat = 0x8000000000 + addr.toNat * 0x100000000 + d.toNat

/-- The HOST word of a read, in numbers (30 R106). -/
def IsRead (w : HostWord) (addr : HostAddr) (d : Data) : Prop :=
  w.toNat = addr.toNat * 0x100000000 + d.toNat

/-- What no address of the register space shows: the timer's counter, the straps and the agents' side. -/
def SameUnseen (s t : State) : Prop :=
  t.cnt = s.cnt ∧ t.rev0 = s.rev0 ∧ t.rev1 = s.rev1 ∧ t.turns = s.turns ∧ t.readData = s.readData ∧
    t.hostQueue = s.hostQueue ∧ t.moveTable = s.moveTable

/-- The instruction completes, the register at `addr` then reads `v`, and nothing else changed: no other address of the 128
and nothing that no address shows. -/
def Writes (s : State) (i : Instr) (addr : HostAddr) (v : Data) : Prop :=
  ∃ t, exec i s = .next t ∧ regRead t addr = v ∧ (∀ other, other ≠ addr → regRead t other = regRead s other) ∧
    SameUnseen s t

/-! ### Agents and runs -/

/-- `n` steps of the machine. -/
def runSteps (n : Nat) (s : State) : Host.Outcome State Fault Refusal := Sys2Proof.core.run n s

/-- `n` ticks as 30 R113 writes them: an update event followed at once by one run of the handler. -/
def ticks (n : Nat) : List Turn := (List.replicate n [Turn.event, Turn.engine]).flatten

/-- Ticks can occur and none is pending; no commit is pending. -/
def Ticking (s : State) : Prop := s.cen = true ∧ s.uie = true ∧ s.uif = false ∧ s.commit = 0#2

/-- The step counters, pointer and sub-counts of an axis at rest. -/
def AtRest (a : AxisState) : Prop := a.spinPointer = 0#6 ∧ a.spinSubcount = 0#8 ∧ a.creepSubcount = 0#8

/-- A HOST word that writes to an address of the bank of axis `m` (30 R107). -/
def WritesOnly (m : Axis) (w : HostWord) : Prop :=
  w.getLsbD 39 = true ∧ w.getLsbD 38 = true ∧ w.getLsbD 37 = decide (number m = 1)

/-- The other axis. -/
def other : Axis → Axis
  | .zero => .one
  | .one => .zero

/-- Two turns that axis `m` cannot tell apart: the same turn of the block's agents, or two writes to the other axis' bank. -/
inductive SameFor (m : Axis) : Turn → Turn → Prop where
  | clock : SameFor m .clock .clock
  | event : SameFor m .event .event
  | engine : SameFor m .engine .engine
  | reset : SameFor m .reset .reset
  | host (w : HostWord) : SameFor m (.host w) (.host w)
  | elsewhere (w w' : HostWord) (h : WritesOnly (other m) w) (h' : WritesOnly (other m) w') :
      SameFor m (.host w) (.host w')

/-- Two machines that axis `m` cannot tell apart: its own state and everything it shares with the other axis agree. -/
structure AgreeOn (m : Axis) (s t : State) : Prop where
  /-- The axis itself. -/
  axis : s.axis m = t.axis m
  /-- Its strap. -/
  rev : s.rev m = t.rev m
  /-- `SPIN_PERIOD`. -/
  spinPeriod : s.spinPeriod = t.spinPeriod
  /-- `COMMIT`. -/
  commit : s.commit = t.commit
  /-- The timer. -/
  timer : s.cen = t.cen ∧ s.uie = t.uie ∧ s.uif = t.uif ∧ s.timPeriod = t.timPeriod ∧ s.cnt = t.cnt
  /-- The turns to come. -/
  turns : List.Forall₂ (SameFor m) s.turns t.turns
  /-- No access waits to be served. -/
  queue : s.hostQueue = [] ∧ t.hostQueue = []

/-- No execute command stands in the move table: it is a trigger, and is never buffered (43 R211, R215). -/
def NoTriggerBuffered (s : State) : Prop := Command.execute ∉ s.moveTable

/-- Run instructions one after the other. -/
def execAll : List Instr → State → Host.Outcome State Fault Refusal
  | [], s => .next s
  | i :: is, s =>
    match exec i s with
    | .next t => execAll is t
    | .fault r => .fault r
    | .refused r => .refused r

/-- The accesses that turns of the host issue, in order. -/
def hostWords (ts : List Turn) : List HostWord :=
  ts.filterMap fun t =>
    match t with
    | .host w => some w
    | _ => none

/-- `d` is the shadow word command 4 writes to the axis of a target: the target's bits, replacing the word or ORed into it, the
two readings of 43 R214 (entry 20). The word is what the accesses already issued leave in `SHADOW_FLAGS` (entry 29). -/
def IsLoadedShadow (s : State) (m : Axis) (flags : StageWord) (d : Data) : Prop :=
  ∃ t, execAll (s.hostQueue.map decodeHost) s = .next t ∧
    (d = flags.setWidth 32 ∨ d = ((t.axis m).shadowFlags ||| flags).setWidth 32)

/-- The write of a payload byte to a current register (42 R190 to R194). -/
def currentWrite (m : Axis) (r : CurrentReg) (b : Byte) : Instr :=
  match r with
  | .spinup => .wrCurSpinup m (b.setWidth 32)
  | .cruise => .wrCurCruise m (b.setWidth 32)
  | .spindown => .wrCurSpindown m (b.setWidth 32)
  | .creep => .wrCurCreep m (b.setWidth 32)
  | .drop => .wrCurDrop m (b.setWidth 32)

/-- The write of a step counter (42 R187 to R189). -/
def counterWrite (m : Axis) (k : StepCounter) (d : Data) : Instr :=
  match k with
  | .cruise => .wrCruiseSteps m d
  | .cwCreep => .wrCwCreepSteps m d
  | .ccwCreep => .wrCcwCreepSteps m d

/-- The 24-bit count of command 4 in one of the two byte orders (43 R214). -/
def IsCount (c1 c2 c3 : Byte) (d : Data) : Prop :=
  d.toNat = c1.toNat * 65536 + c2.toNat * 256 + c3.toNat ∨ d.toNat = c3.toNat * 65536 + c2.toNat * 256 + c1.toNat

end Sys2Proof.Claim

open Sys2Proof Sys2Proof.Machine Sys2Proof.Claim

/-! ### Encoding -/

/-- Every well-formed instruction is decoded back from its code (30 R101 to R112; 43 R211). -/
def Obligations.DecodeEncodeRoundTrip : Prop :=
  ∀ i : Instr, i.wellFormed = true → decode (encode i) = .ok i

/-- Every HOST word decodes to a well-formed instruction whose code is that word again, but for the ignored data field of a
read (30 R106, R110). -/
def Obligations.EncodeDecodeHostWord : Prop :=
  ∀ w : HostWord, (decodeHost w).wellFormed = true ∧
    (w.getLsbD 39 = true → encode (decodeHost w) = .host w) ∧
    (w.getLsbD 39 = false → ∃ w', encode (decodeHost w) = .host w' ∧ w'.toNat = w.toNat / 0x100000000 * 0x100000000)

/-- The nine patterns of 30 R102, as match and mask. -/
def Obligations.StageWordHighestBitWins : Prop :=
  ∀ (m : Axis) (w : StageWord),
    (w &&& 0x80#8 = 0x80#8 ↔ decode (.stage m w) = .ok (.cwSpinup m)) ∧
    (w &&& 0xC0#8 = 0x40#8 ↔ decode (.stage m w) = .ok (.cwCruise m)) ∧
    (w &&& 0xE0#8 = 0x20#8 ↔ decode (.stage m w) = .ok (.cwSpindown m)) ∧
    (w &&& 0xF0#8 = 0x10#8 ↔ decode (.stage m w) = .ok (.ccwSpinup m)) ∧
    (w &&& 0xF8#8 = 0x08#8 ↔ decode (.stage m w) = .ok (.ccwCruise m)) ∧
    (w &&& 0xFC#8 = 0x04#8 ↔ decode (.stage m w) = .ok (.ccwSpindown m)) ∧
    (w &&& 0xFE#8 = 0x02#8 ↔ decode (.stage m w) = .ok (.ccwCreep m)) ∧
    (w &&& 0xFF#8 = 0x01#8 ↔ decode (.stage m w) = .ok (.cwCreep m)) ∧
    (w &&& 0xFF#8 = 0x00#8 ↔ decode (.stage m w) = .ok (.idle m))

/-- Every HOST word is the row of its address: 26 write rows, `WR.IGNORED` at every other address, `RD` when `W = 0`
(30 R106 to R111). -/
def Obligations.HostWordsFollowTheRegisterMap : Prop :=
  ∀ (w : HostWord) (addr : HostAddr) (d : Data),
    (IsWrite w addr d →
      (∀ i, (addr, i) ∈ writeRows d → decodeHost w = i) ∧
      (addr ∉ (writeRows d).map Prod.fst → decodeHost w = .wrIgnored addr d)) ∧
    (IsRead w addr d → decodeHost w = .rd addr)

/-- HOST, STAGE and EVT words printed in 95_test_vectors.md decode to the instruction they are printed for, and a CAN frame of
id 7 with no payload to command 7 (43 R211, R215, R218). -/
def Obligations.PrintedWordsDecode : Prop :=
  decode (.host 0x8000000003#40) = .ok (.wrTimCtrl 3#32) ∧
  decode (.host 0x8300000002#40) = .ok (.wrCommit 2#32) ∧
  decode (.host 0xE0000000E1#40) = .ok (.wrShadowFlags .one 0xE1#32) ∧
  decode (.host 0xC5000003E8#40) = .ok (.wrCruiseSteps .zero 1000#32) ∧
  decode (.host 0xE900000046#40) = .ok (.wrCurCruise .one 70#32) ∧
  decode (.host 0xC1000000FF#40) = .ok (.wrIgnored 0x41#7 0xFF#32) ∧
  decode (.host 0x6100000000#40) = .ok (.rd 0x61#7) ∧
  decode (.stage .zero 0xE1#8) = .ok (.cwSpinup .zero) ∧
  decode (.evt 0b11#2) = .ok .tick ∧
  decode (.can ⟨7#8, []⟩) = .ok .cmd7Execute

/-! ### Steps -/

/-- A step runs the instruction the scheduled agent fetches, in the state without that turn (20 R86; entry 1): the host's access
when nothing issued waits, the oldest issued access (20 R89; entry 9), a trigger command, a single command that is executed at
once with the commit that follows it (43 R211, R215; entry 18), and the engine's handler. -/
def Obligations.StepRunsTheFetchedInstruction : Prop :=
  ∀ (s : State) (rest : List Turn) (i : Instr),
    (∀ w, s.turns = .host w :: rest → s.hostQueue = [] → decode (.host w) = .ok i →
      step s = exec i { s with turns := rest }) ∧
    (∀ w v vs, s.turns = .host w :: rest → s.hostQueue = v :: vs → decode (.host v) = .ok i →
      step s = exec i { s with turns := rest, hostQueue := vs ++ [w] }) ∧
    (∀ w ws, s.turns = .port :: rest → s.hostQueue = w :: ws → decode (.host w) = .ok i →
      step s = exec i { s with turns := rest, hostQueue := ws }) ∧
    (∀ f, s.turns = .canDispatch f :: rest → decode (.can f) = .ok .cmd7Execute →
      step s = exec .cmd7Execute { s with turns := rest }) ∧
    (∀ f, s.turns = .canDispatch f :: rest → decode (.can f) = .ok i → i ≠ .cmd7Execute → s.moveTable = [] →
      ∃ u w mask table, exec i { s with turns := rest } = .next u ∧ decodeHost w = .wrCommit mask ∧
        step s = .next { u with hostQueue := u.hostQueue ++ [w], moveTable := table }) ∧
    (s.turns = .engine :: rest → decode (.evt (BitVec.ofBool s.uie ++ BitVec.ofBool s.uif)) = .ok i →
      step s = exec i { s with turns := rest })

/-- Host program order (20 R89): the accesses that turns of the host and of the port serve are the oldest of those issued, in
the order they are issued, an access of the host coming after those that wait; none is lost, and every turn serves one unless
the port runs out of them. The turns are the model's (entry 1), the waiting accesses entry 9. -/
def Obligations.HostAccessesKeepProgramOrder : Prop :=
  ∀ (s : State) (ts rest : List Turn), (∀ t ∈ ts, t = .port ∨ ∃ w, t = .host w) → s.turns = ts ++ rest →
    ∃ k t, runSteps ts.length s = .next t ∧ k ≤ (s.hostQueue ++ hostWords ts).length ∧
      execAll (((s.hostQueue ++ hostWords ts).take k).map decodeHost)
        { s with turns := rest, hostQueue := (s.hostQueue ++ hostWords ts).drop k } = .next t ∧
      (ts.count .port ≤ s.hostQueue.length → k = ts.length)

/-- The engine's turn (the model's, entry 1) runs the handler when both bits are 1, and starts nothing otherwise (30 R112;
40 R132). -/
def Obligations.HandlerStartsWhenPendingAndEnabled : Prop :=
  ∀ (s : State) (rest : List Turn), s.turns = .engine :: rest →
    (s.uie = true ∧ s.uif = true → step s = exec .tick { s with turns := rest }) ∧
    (¬(s.uie = true ∧ s.uif = true) → step s = .next { s with turns := rest })

/-- Every operation has a successor state, and so has every step (60 R230). -/
def Obligations.EveryOperationHasASuccessor : Prop :=
  (∀ (i : Instr) (s : State), ∃ t, exec i s = .next t) ∧ (∀ s : State, ∃ t, step s = .next t)

/-! ### Reset and invariants -/

/-- The reset values of 10 R51. The agents' side is the model's own (entries 1, 9, 11) and is not claimed here. -/
def Obligations.ResetValues : Prop :=
  (∀ m : Axis, State.reset.axis m = {
    phaseAngle := 0, motionFlags := 0, shadowFlags := 0, spinPointer := 0, spinSubcount := 0, creepSubcount := 0,
    cruiseSteps := 0, cwCreepSteps := 0, ccwCreepSteps := 0, cwCreepCurOp := 0, ccwCreepCurOp := 0, curSpinup := 0,
    curCruise := 0, curSpindown := 0, curCreep := 0, curDrop := 0, creepPeriod := 0, bump := 0, pwmCcr0 := 0,
    pwmCcr1 := 0, pwmCcr2 := 0 }) ∧
  State.reset.spinPeriod = 0 ∧ State.reset.commit = 0 ∧ State.reset.cen = false ∧ State.reset.uie = false ∧
  State.reset.timPeriod = 4000 ∧ State.reset.uif = false ∧ State.reset.cnt = 0

/-- The reset input (a turn of the model, entries 1 and 10) brings every register of the block to its reset value and leaves
the straps, whatever the state (70 R260, R262). -/
def Obligations.ResetInputRestoresTheBlock : Prop :=
  ∀ (s : State) (rest : List Turn), s.turns = .reset :: rest → ∃ t, step s = .next t ∧
    (∀ addr, regRead t addr = regRead State.reset addr) ∧ t.cnt = 0 ∧ t.rev0 = s.rev0 ∧ t.rev1 = s.rev1 ∧ t.turns = rest

/-- The invariants of 10 R49 hold after reset. -/
def Obligations.InvariantAtReset : Prop := State.reset.Inv

/-- The invariants of 10 R49 are kept by every step of every agent. -/
def Obligations.InvariantKeptByEveryStep : Prop := ∀ s : State, s.Inv → ∀ t, step s = .next t → t.Inv

/-- The invariants are kept by an axis tick whatever the admissible tables and numbers (92 section 2). -/
def Obligations.InvariantKeptForAnyTables : Prop :=
  ∀ (c : Config) (rev : Bool) (spinPeriod : BitVec 8) (a : AxisState),
    c.Admissible → a.Inv c → (axisTick c rev spinPeriod a).Inv c

/-- `COMMIT` and `UIF` are 0 at the end of every tick (10 R49; 40 R136, R139). -/
def Obligations.TickLeavesNothingPending : Prop :=
  ∀ s : State, ∃ t, exec .tick s = .next t ∧ t.commit = 0#2 ∧ t.uif = false

/-- No execute command is ever in the move table: at reset, and kept by every step (43 R215; the table is the model's,
entries 9 and 18). -/
def Obligations.MoveTableNeverHoldsATrigger : Prop :=
  NoTriggerBuffered State.reset ∧ ∀ s : State, NoTriggerBuffered s → ∀ t, step s = .next t → NoTriggerBuffered t

/-! ### Who writes what -/

/-- No operation of the host or of its command layer writes a field the engine or the timer owns (10 R50). -/
def Obligations.HostNeverWritesEngineState : Prop :=
  ∀ i : Instr, i ≠ .tick → (∀ m st, i ≠ stageInstr m st) → ∀ s : State, ∃ t, exec i s = .next t ∧
    (∀ m, (s.axis m).sameEngineOwned (t.axis m)) ∧ t.uif = s.uif ∧ t.cnt = s.cnt

/-- No operation of the engine writes a field the host owns, nor the timer's counter (10 R50). -/
def Obligations.EngineNeverWritesHostState : Prop :=
  ∀ i : Instr, (i = .tick ∨ ∃ m st, i = stageInstr m st) → ∀ s : State, ∃ t, exec i s = .next t ∧
    (∀ m, (s.axis m).sameHostOwned (t.axis m)) ∧ t.spinPeriod = s.spinPeriod ∧ t.cen = s.cen ∧ t.uie = s.uie ∧
    t.timPeriod = s.timPeriod ∧ SameUnseen s t

/-- `motion_flags` changes only in a run of the handler, or by reset (10 R22). That the engine moves when no turn is scheduled
is the model's choice (entry 2). -/
def Obligations.MotionFlagsChangeOnlyInATick : Prop :=
  ∀ (s t : State) (m : Axis), step s = .next t → (t.axis m).motionFlags ≠ (s.axis m).motionFlags →
    s.turns.head? = some .reset ∨
    ((s.turns = [] ∨ s.turns.head? = some .engine) ∧ s.uie = true ∧ s.uif = true)

/-! ### Stage actions -/

/-- `CW_SPINUP` and `CCW_SPINUP` (41 R155, R158). -/
def Obligations.SpinUpAction : Prop :=
  ∀ (s : State) (m : Axis),
    (∃ a', exec (.cwSpinup m) s = .next (s.setAxis m a') ∧
      SpinResult (s.rev m) s.spinPeriod.toNat 1 (s.axis m).curSpinup.toNat 7
        (if (s.axis m).spinPointer.toNat < 33 then (s.axis m).spinPointer.toNat + 1 else (s.axis m).spinPointer.toNat) 33
        (s.axis m) a') ∧
    (∃ a', exec (.ccwSpinup m) s = .next (s.setAxis m a') ∧
      SpinResult (s.rev m) s.spinPeriod.toNat (-1) (s.axis m).curSpinup.toNat 4
        (if (s.axis m).spinPointer.toNat < 33 then (s.axis m).spinPointer.toNat + 1 else (s.axis m).spinPointer.toNat) 33
        (s.axis m) a')

/-- `CW_SPINDOWN` and `CCW_SPINDOWN` (41 R157, R160). -/
def Obligations.SpinDownAction : Prop :=
  ∀ (s : State) (m : Axis),
    (∃ a', exec (.cwSpindown m) s = .next (s.setAxis m a') ∧
      SpinResult (s.rev m) s.spinPeriod.toNat 1 (s.axis m).curSpindown.toNat 5 ((s.axis m).spinPointer.toNat - 1) 0
        (s.axis m) a') ∧
    (∃ a', exec (.ccwSpindown m) s = .next (s.setAxis m a') ∧
      SpinResult (s.rev m) s.spinPeriod.toNat (-1) (s.axis m).curSpindown.toNat 2 ((s.axis m).spinPointer.toNat - 1) 0
        (s.axis m) a')

/-- `CW_CRUISE` and `CCW_CRUISE` (41 R156, R159). -/
def Obligations.CruiseAction : Prop :=
  ∀ (s : State) (m : Axis),
    (∃ a', exec (.cwCruise m) s = .next (s.setAxis m a') ∧ CruiseResult (s.rev m) 1 6 (s.axis m) a') ∧
    (∃ a', exec (.ccwCruise m) s = .next (s.setAxis m a') ∧ CruiseResult (s.rev m) (-1) 3 (s.axis m) a')

/-- `CCW_CREEP` (41 R161). -/
def Obligations.CcwCreepAction : Prop :=
  ∀ (s : State) (m : Axis), ∃ a', exec (.ccwCreep m) s = .next (s.setAxis m a') ∧
    CreepResult (s.rev m) (-1) 1 AxisState.ccwCreepSteps AxisState.ccwCreepCurOp ((s.axis m).bump.getLsbD 1)
      (s.axis m) a' ∧
    a' = { s.axis m with
      phaseAngle := a'.phaseAngle, motionFlags := a'.motionFlags, creepSubcount := a'.creepSubcount,
      ccwCreepSteps := a'.ccwCreepSteps, ccwCreepCurOp := a'.ccwCreepCurOp, pwmCcr0 := a'.pwmCcr0,
      pwmCcr1 := a'.pwmCcr1, pwmCcr2 := a'.pwmCcr2 }

/-- `CW_CREEP` (41 R162). -/
def Obligations.CwCreepAction : Prop :=
  ∀ (s : State) (m : Axis), ∃ a', exec (.cwCreep m) s = .next (s.setAxis m a') ∧
    CreepResult (s.rev m) 1 0 AxisState.cwCreepSteps AxisState.cwCreepCurOp ((s.axis m).bump.getLsbD 0)
      (s.axis m) a' ∧
    a' = { s.axis m with
      phaseAngle := a'.phaseAngle, motionFlags := a'.motionFlags, creepSubcount := a'.creepSubcount,
      cwCreepSteps := a'.cwCreepSteps, cwCreepCurOp := a'.cwCreepCurOp, pwmCcr0 := a'.pwmCcr0,
      pwmCcr1 := a'.pwmCcr1, pwmCcr2 := a'.pwmCcr2 }

/-- `IDLE` changes nothing (41 R163). -/
def Obligations.IdleAction : Prop := ∀ (s : State) (m : Axis), exec (.idle m) s = .next s

/-- A tick of an axis leaves its stage word, or clears the highest set bit of it and nothing else (40 R138; 41 R164). -/
def Obligations.TickClearsAtMostTheActiveBit : Prop :=
  ∀ (rev : Bool) (spinPeriod : BitVec 8) (a : AxisState) (b : Fin 8),
    a.motionFlags.getLsbD b = true → (∀ j : Fin 8, b < j → a.motionFlags.getLsbD j = false) →
    (tickOf rev spinPeriod a).motionFlags = a.motionFlags ∨
    BitCleared b a.motionFlags (tickOf rev spinPeriod a).motionFlags

/-- The stage actions of the two axes commute (20 R93). -/
def Obligations.AxisActionsCommute : Prop :=
  ∀ (s : State) (st st' : Stage),
    execAll [stageInstr .zero st, stageInstr .one st'] s = execAll [stageInstr .one st', stageInstr .zero st] s

/-! ### The handler -/

/-- `TICK` completes; each axis is what its decoded stage action alone makes of it, then, if its commit bit is set, with the
stage word and the two operating creep currents replaced; `UIF` and `COMMIT` are cleared; nothing else changes
(40 R135, R137, R139, R140). -/
def Obligations.TickRunsBothAxesAndTheHandoff : Prop :=
  ∀ s : State, ∃ t, exec .tick s = .next t ∧
    t = { s with ax0 := t.ax0, ax1 := t.ax1, uif := false, commit := 0#2 } ∧
    ∀ (m : Axis) (i : Instr), decode (.stage m (s.axis m).motionFlags) = .ok i → ∃ u, exec i s = .next u ∧
      (committed m s = false → t.axis m = u.axis m) ∧
      (committed m s = true → t.axis m = { u.axis m with
        motionFlags := (s.axis m).shadowFlags, cwCreepCurOp := (s.axis m).curCreep,
        ccwCreepCurOp := (s.axis m).curCreep })

/-- A stage word in `shadow_flags` has no effect on a tick that does not commit it (20 R91). -/
def Obligations.ShadowIsInertUntilCommitted : Prop :=
  ∀ (s : State) (m : Axis) (w : StageWord), committed m s = false → ∃ t, exec .tick s = .next t ∧
    exec .tick (s.setAxis m { s.axis m with shadowFlags := w }) =
      .next (t.setAxis m { t.axis m with shadowFlags := w })

/-- An idle axis that is not committed stays as it is through any number of ticks, whatever the other axis does and whether it
is committed or not (41 R163, R167). -/
def Obligations.IdleAxisStaysUntilCommitted : Prop :=
  ∀ (s : State) (m : Axis) (n : Nat) (rest : List Turn), committed m s = false → (s.axis m).motionFlags = 0#8 →
    s.turns = ticks n ++ rest → ∃ t, runSteps (2 * n) s = .next t ∧ t.axis m = s.axis m ∧ t.turns = rest

/-- No run of the block can make an axis depend on the other one: machines that agree on an axis still do after any number
of steps, whatever is written to the other axis in each (10 R20; 20 R93). -/
def Obligations.AxesNeverInterfere : Prop :=
  ∀ (m : Axis) (n : Nat) (s t : State), AgreeOn m s t →
    ∃ s' t', runSteps n s = .next s' ∧ runSteps n t = .next t' ∧ AgreeOn m s' t'

/-! ### Durations and displacements -/

/-- The ramp pointer advances by exactly 1 every `P` spin-up ticks, in either direction, and never exceeds 33 (41 R154). -/
def Obligations.PointerAdvancesEveryPeriod : Prop :=
  ∀ (rev : Bool) (spinPeriod : BitVec 8) (a : AxisState),
    (decodeStage a.motionFlags = .cwSpinup ∨ decodeStage a.motionFlags = .ccwSpinup) → a.spinSubcount = 0#8 →
    a.spinPointer.toNat ≤ 33 →
    (∀ j r : Nat, a.spinPointer.toNat + j < 33 → r < max spinPeriod.toNat 1 →
      ((tickOf rev spinPeriod)^[j * max spinPeriod.toNat 1 + r] a).spinPointer.toNat = a.spinPointer.toNat + j) ∧
    (∀ j : Nat, a.spinPointer.toNat + j ≤ 33 →
      ((tickOf rev spinPeriod)^[j * max spinPeriod.toNat 1] a).spinPointer.toNat = a.spinPointer.toNat + j) ∧
    ∀ k, ((tickOf rev spinPeriod)^[k] a).spinPointer.toNat ≤ 33

/-- Ticks and units of a spin-up stage entered at pointer `p` with sub-count 0 (41 R165). -/
def Obligations.SpinUpDuration : Prop :=
  ∀ (rev : Bool) (spinPeriod : BitVec 8) (a : AxisState) (st : Stage) (sgn : Int) (n moved : Nat),
    (st = .cwSpinup ∧ sgn = 1 ∨ st = .ccwSpinup ∧ sgn = -1) → decodeStage a.motionFlags = st → a.spinSubcount = 0#8 →
    a.spinPointer.toNat ≤ 33 →
    n = (if a.spinPointer.toNat < 33 then 33 - a.spinPointer.toNat else 1) * max spinPeriod.toNat 1 →
    moved = (if a.spinPointer.toNat < 33 then ∑ i ∈ Finset.Ico a.spinPointer.toNat 33, i else 33) *
      max spinPeriod.toNat 1 →
    (∀ k, k < n → ((tickOf rev spinPeriod)^[k] a).motionFlags = a.motionFlags) ∧
    BitCleared (if st = .cwSpinup then 7 else 4) a.motionFlags ((tickOf rev spinPeriod)^[n] a).motionFlags ∧
    ((tickOf rev spinPeriod)^[n] a).spinPointer = 33#6 ∧ ((tickOf rev spinPeriod)^[n] a).spinSubcount = 0#8 ∧
    PhaseMoved (sgn * moved) a ((tickOf rev spinPeriod)^[n] a)

/-- Ticks and units of a spin-down stage entered at pointer `p` with sub-count 0 (41 R165). -/
def Obligations.SpinDownDuration : Prop :=
  ∀ (rev : Bool) (spinPeriod : BitVec 8) (a : AxisState) (st : Stage) (sgn : Int) (n moved : Nat),
    (st = .cwSpindown ∧ sgn = 1 ∨ st = .ccwSpindown ∧ sgn = -1) → decodeStage a.motionFlags = st →
    a.spinSubcount = 0#8 → a.spinPointer.toNat ≤ 33 →
    n = (if 0 < a.spinPointer.toNat then a.spinPointer.toNat else 1) * max spinPeriod.toNat 1 →
    moved = (∑ i ∈ Finset.Icc 1 a.spinPointer.toNat, i) * max spinPeriod.toNat 1 →
    (∀ k, k < n → ((tickOf rev spinPeriod)^[k] a).motionFlags = a.motionFlags) ∧
    BitCleared (if st = .cwSpindown then 5 else 2) a.motionFlags ((tickOf rev spinPeriod)^[n] a).motionFlags ∧
    ((tickOf rev spinPeriod)^[n] a).spinPointer = 0#6 ∧ ((tickOf rev spinPeriod)^[n] a).spinSubcount = 0#8 ∧
    PhaseMoved (sgn * moved) a ((tickOf rev spinPeriod)^[n] a)

/-- Ticks and units of a cruise stage with count `N`: `N` ticks and `33 * N` units, one tick and none for `N = 0`
(41 R165). -/
def Obligations.CruiseDuration : Prop :=
  ∀ (rev : Bool) (spinPeriod : BitVec 8) (a : AxisState) (st : Stage) (sgn : Int),
    (st = .cwCruise ∧ sgn = 1 ∨ st = .ccwCruise ∧ sgn = -1) → decodeStage a.motionFlags = st →
    a.phaseAngle.toNat < 3600 →
    (∀ k, k < max a.cruiseSteps.toNat 1 → ((tickOf rev spinPeriod)^[k] a).motionFlags = a.motionFlags) ∧
    BitCleared (if st = .cwCruise then 6 else 3) a.motionFlags
      ((tickOf rev spinPeriod)^[max a.cruiseSteps.toNat 1] a).motionFlags ∧
    ((tickOf rev spinPeriod)^[max a.cruiseSteps.toNat 1] a).cruiseSteps = 0#32 ∧
    PhaseMoved (sgn * (33 * a.cruiseSteps.toNat)) a ((tickOf rev spinPeriod)^[max a.cruiseSteps.toNat 1] a)

/-- Ticks and units of a creep stage with count `N >= 1` and sub-count 0: `N * CREEP_PERIOD` ticks and `N` units, one tick
and none for `N = 0` (41 R165). -/
def Obligations.CreepDuration : Prop :=
  ∀ (rev : Bool) (spinPeriod : BitVec 8) (a : AxisState) (st : Stage) (sgn : Int) (count n : Nat),
    (st = .cwCreep ∧ sgn = 1 ∧ count = a.cwCreepSteps.toNat ∨
      st = .ccwCreep ∧ sgn = -1 ∧ count = a.ccwCreepSteps.toNat) →
    decodeStage a.motionFlags = st → a.phaseAngle.toNat < 3600 → a.creepSubcount = 0#8 →
    n = (if count = 0 then 1 else count * max a.creepPeriod.toNat 1) →
    (∀ k, k < n → ((tickOf rev spinPeriod)^[k] a).motionFlags = a.motionFlags) ∧
    BitCleared (if st = .cwCreep then 0 else 1) a.motionFlags ((tickOf rev spinPeriod)^[n] a).motionFlags ∧
    ((tickOf rev spinPeriod)^[n] a).creepSubcount = 0#8 ∧
    PhaseMoved (sgn * count) a ((tickOf rev spinPeriod)^[n] a)

/-- The full moves `0xE1` and `0x1E` from rest take exactly `66 * S + N + M * C` ticks and move `1089 * S + 33 * N + M`
units, on the whole machine and whatever the other axis does (41 R164, R165). -/
def Obligations.FullMove : Prop :=
  ∀ (s : State) (m : Axis) (word : StageWord) (sgn : Int) (creepSteps n : Nat) (rest : List Turn),
    (word = 0xE1#8 ∧ sgn = 1 ∧ creepSteps = (s.axis m).cwCreepSteps.toNat ∨
      word = 0x1E#8 ∧ sgn = -1 ∧ creepSteps = (s.axis m).ccwCreepSteps.toNat) →
    Ticking s → (s.axis m).motionFlags = word → AtRest (s.axis m) → 1 ≤ (s.axis m).cruiseSteps.toNat →
    1 ≤ creepSteps →
    n = 66 * max s.spinPeriod.toNat 1 + (s.axis m).cruiseSteps.toNat + creepSteps * max (s.axis m).creepPeriod.toNat 1 →
    s.turns = ticks n ++ rest →
    (∀ k, k < n → ∃ t, runSteps (2 * k) s = .next t ∧ (t.axis m).motionFlags ≠ 0#8) ∧
    ∃ t, runSteps (2 * n) s = .next t ∧ (t.axis m).motionFlags = 0#8 ∧ AtRest (t.axis m) ∧
      DutiesAre (s.rev m) (s.axis m).curDrop.toNat (t.axis m) ∧ t.turns = rest ∧
      PhaseMoved (sgn * (1089 * max s.spinPeriod.toNat 1 + 33 * (s.axis m).cruiseSteps.toNat + creepSteps))
        (s.axis m) (t.axis m)

/-- Scenario 1 at the host port: load 3600 CW creep steps, commit, tick; `3600 * CREEP_PERIOD` ticks later the phase of
motor 0 is where it started and bit 0 of its `motion_flags` is clear, and not before (43 R219). -/
def Obligations.ScenarioOneElectricalTurn : Prop :=
  ∀ (s : State) (n : Nat), Ticking s → s.hostQueue = [] → s.ax0.motionFlags = 0#8 → s.ax0.creepSubcount = 0#8 →
    s.ax0.phaseAngle.toNat < 3600 → n = 3600 * max s.ax0.creepPeriod.toNat 1 →
    s.turns = [.host 0xC600000E10#40, .host 0xC000000001#40, .host 0x8300000001#40] ++ ticks (1 + n) →
    (∀ k, k < n → ∃ t, runSteps (3 + 2 * (1 + k)) s = .next t ∧ t.ax0.motionFlags.getLsbD 0 = true) ∧
    ∃ t, runSteps (3 + 2 * (1 + n)) s = .next t ∧ t.ax0.motionFlags.getLsbD 0 = false ∧
      t.ax0.phaseAngle = s.ax0.phaseAngle

/-! ### Tables and duties -/

/-- The contents of the two ROMs have the properties W1 to W5, P1 and P2, and the numbers fit (20 R75, R79; 92 section
2). -/
def Obligations.TablesAreAdmissible : Prop := hardware.Admissible

/-- The check sums 20 R76 and 96_wave_table_default.md print. -/
def Obligations.WaveTableSums : Prop :=
  (List.range 1801).foldl (fun acc i => acc + hardware.wave i) 0 = 3602000 ∧
  (List.range 3600).foldl (fun acc i => acc + hardware.wave i) 0 = 7200000 ∧
  (List.range 6144).foldl (fun acc i => acc + hardware.wave i) 0 = 11185560 ∧
  (List.range 1801).foldl (fun acc i => acc + i * hardware.wave i) 0 % 65521 = 25380

/-- Every table index the engine forms lies in 0..5999, inside the table (20 R77): the three indexes of a duty write do, and an
axis tick gives the same axis with any table that agrees with `WAVE` on 0..5999. -/
def Obligations.EngineIndexesStayInTheTable : Prop :=
  ∀ (a : AxisState) (rev : Bool) (spinPeriod : BitVec 8) (wave : Nat → Nat), a.Inv hardware →
    a.phaseAngle.toNat ≤ 5999 ∧ a.phaseAngle.toNat + offsetA hardware rev ≤ 5999 ∧
    a.phaseAngle.toNat + offsetB hardware rev ≤ 5999 ∧ 5999 < hardware.lutLen ∧
    ((∀ i, i ≤ 5999 → wave i = hardware.wave i) →
      axisTick { hardware with wave := wave } rev spinPeriod a = axisTick hardware rev spinPeriod a)

/-- A duty is `floor(c * w / 100)`, at most `DUTY_MAX`; `c = 100` gives `w` and `c = 0` gives 0, for any admissible table
(41 R166). -/
def Obligations.DutyArithmetic : Prop :=
  ∀ (c : Config) (cur : BitVec 7) (i : Nat), c.Admissible → i < c.lutLen → cur.toNat ≤ c.curOne →
    (duty c cur i).toNat = cur.toNat * c.wave i / c.curOne ∧ (duty c cur i).toNat ≤ c.dutyMax ∧
    (cur.toNat = c.curOne → (duty c cur i).toNat = c.wave i) ∧ (cur.toNat = 0 → (duty c cur i).toNat = 0)

/-! ### The timer -/

/-- One timer clock (40 R130); the clock's turn is the model's (entry 1). -/
def Obligations.TimerClock : Prop :=
  ∀ (s : State) (rest : List Turn), s.turns = .clock :: rest →
    (s.cen = false → step s = .next { s with turns := rest }) ∧
    (s.cen = true → s.timPeriod.toNat ≤ s.cnt.toNat + 1 →
      step s = .next { s with turns := rest, cnt := 0, uif := true }) ∧
    (s.cen = true → s.cnt.toNat + 1 < s.timPeriod.toNat → ∃ t, step s = .next t ∧
      t.cnt.toNat = s.cnt.toNat + 1 ∧ t = { s with turns := rest, cnt := t.cnt })

/-- The untimed update event sets `UIF` and does nothing else, and a second one changes nothing; with `CEN = 0` no update event
occurs and its turn changes nothing (40 R130, R131, R134; its turn is the model's, entry 4). -/
def Obligations.UpdateEventSetsPendingOnly : Prop :=
  ∀ (s : State) (rest : List Turn), s.turns = .event :: rest →
    (s.cen = true → step s = .next { s with turns := rest, uif := true }) ∧
    (s.cen = false → step s = .next { s with turns := rest })

/-- From a cleared counter an update event occurs on the `P`-th clock and not before, a period of 0 counting as 1
(40 R130). -/
def Obligations.UpdateEventEveryPeriod : Prop :=
  ∀ (s : State) (rest : List Turn) (p : Nat), s.cen = true → s.cnt = 0#16 → p = max s.timPeriod.toNat 1 →
    s.turns = List.replicate p .clock ++ rest →
    (∀ k, k < p → runSteps k s =
      .next { s with turns := List.replicate (p - k) .clock ++ rest, cnt := BitVec.ofNat 16 k }) ∧
    runSteps p s = .next { s with turns := rest, cnt := 0#16, uif := true }

/-! ### The host port -/

/-- `RD` returns the register at each of the 47 assigned addresses and 0 at every other, and changes nothing of the block
(42 R181). What it returns stands in `readData` (entry 11). -/
def Obligations.ReadReturnsTheRegister : Prop :=
  ∀ (s : State) (addr : HostAddr),
    (∀ v, (addr, v) ∈ registerTable s → exec (.rd addr) s = .next { s with readData := some v }) ∧
    (addr ∉ (registerTable s).map Prod.fst → exec (.rd addr) s = .next { s with readData := some 0 })

/-- The writes of the global registers (42 R182 to R185). -/
def Obligations.GlobalWrites : Prop :=
  ∀ (s : State) (d : Data),
    Writes s (.wrTimCtrl d) 0x00#7 (d &&& 0x3#32) ∧
    Writes s (.wrTimPeriod d) 0x01#7 (d &&& 0xFFFF#32) ∧
    Writes s (.wrCommit d) 0x03#7 (s.commit.setWidth 32 ||| (d &&& 0x3#32)) ∧
    Writes s (.wrSpinPeriod d) 0x04#7 (d &&& 0xFF#32)

/-- The writes of the axis registers that store the data's low bits (42 R186 to R189, R195, R196). -/
def Obligations.AxisWrites : Prop :=
  ∀ (s : State) (m : Axis) (d : Data),
    Writes s (.wrShadowFlags m d) (base m + 0x00#7) (d &&& 0xFF#32) ∧
    Writes s (.wrCruiseSteps m d) (base m + 0x05#7) d ∧
    Writes s (.wrCwCreepSteps m d) (base m + 0x06#7) d ∧
    Writes s (.wrCcwCreepSteps m d) (base m + 0x07#7) d ∧
    Writes s (.wrCreepPeriod m d) (base m + 0x0D#7) (d &&& 0xFF#32) ∧
    Writes s (.wrBump m d) (base m + 0x0E#7) (d &&& 0x3#32)

/-- The writes of the current registers store `min(data[7:0], 100)` (42 R190 to R194). -/
def Obligations.CurrentWrites : Prop :=
  ∀ (s : State) (m : Axis) (d : Data),
    Writes s (.wrCurSpinup m d) (base m + 0x08#7) (BitVec.ofNat 32 (min (d.toNat % 256) 100)) ∧
    Writes s (.wrCurCruise m d) (base m + 0x09#7) (BitVec.ofNat 32 (min (d.toNat % 256) 100)) ∧
    Writes s (.wrCurSpindown m d) (base m + 0x0A#7) (BitVec.ofNat 32 (min (d.toNat % 256) 100)) ∧
    Writes s (.wrCurCreep m d) (base m + 0x0B#7) (BitVec.ofNat 32 (min (d.toNat % 256) 100)) ∧
    Writes s (.wrCurDrop m d) (base m + 0x0C#7) (BitVec.ofNat 32 (min (d.toNat % 256) 100))

/-- The HOST word of a write to a read-only or reserved address is `WR.IGNORED`, which completes and changes nothing
(42 R197). -/
def Obligations.OtherWritesAreIgnored : Prop :=
  ∀ (s : State) (w : HostWord) (addr : HostAddr) (d : Data), IsWrite w addr d →
    (addr = 0x02#7 ∨ (0x05#7 ≤ addr ∧ addr ≤ 0x3F#7) ∨
      (∃ m : Axis, base m + 0x01#7 ≤ addr ∧ addr ≤ base m + 0x04#7) ∨
      (∃ m : Axis, base m + 0x0F#7 ≤ addr ∧ addr ≤ base m + 0x1F#7)) →
    decode (.host w) = .ok (.wrIgnored addr d) ∧ exec (.wrIgnored addr d) s = .next s

/-! ### The command layer -/

/-- Command 3 issues three writes, byte 0 to `CREEP_PERIOD[0]`, byte 1 to `CREEP_PERIOD[1]`, byte 2 to `SPIN_PERIOD`; when
the port has served them the registers hold the bytes and nothing else of the block has changed (43 R213). That the writes
are issued in the order of the bytes is the model's choice (entry 21). -/
def Obligations.SetPeriodsReachesTheRegisters : Prop :=
  ∀ (s : State) (creep0 creep1 spin : Byte) (rest : List Turn), s.hostQueue = [] → ∃ t,
    exec (.cmd3SetPeriods creep0 creep1 spin) s = .next t ∧ t = { s with hostQueue := t.hostQueue } ∧
    t.hostQueue.map decodeHost = [.wrCreepPeriod .zero (creep0.setWidth 32), .wrCreepPeriod .one (creep1.setWidth 32),
      .wrSpinPeriod (spin.setWidth 32)] ∧
    runSteps 3 { t with turns := .port :: .port :: .port :: rest } = .next { s with
      ax0 := { s.ax0 with creepPeriod := creep0 }, ax1 := { s.ax1 with creepPeriod := creep1 }, spinPeriod := spin,
      turns := rest }

/-- Command 2 issues, byte by byte, the write of that byte to every current register `CMD2_MAP` names for it, whatever that
map is (43 R212). The open map is entry 19, the order of the writes entry 21. -/
def Obligations.SetCurrentsFollowsTheMap : Prop :=
  ∀ (s : State) (b0 b1 b2 b3 b4 b5 b6 b7 : Byte), ∃ ws,
    exec (.cmd2SetCurrents b0 b1 b2 b3 b4 b5 b6 b7) s = .next { s with hostQueue := s.hostQueue ++ ws } ∧
    ws.map decodeHost = (([b0, b1, b2, b3, b4, b5, b6, b7] : List Byte).zipIdx.flatMap fun b =>
      (Config.cmd2Map b.2).map fun r => currentWrite r.1 r.2 b.1)

/-- Command 4 with select 0 issues the count to `CW_CREEP_STEPS[0]` and then the shadow word of motor 0 with bit 0 set and no
other bit but those the word had (43 R214). The open parameters are entry 20; the order of the two writes is the model's
choice, entry 21, and so is the word ORed into, entry 29. -/
def Obligations.QueueMoveTypeZero : Prop :=
  ∀ (s : State) (c1 c2 c3 p4 p5 : Byte), ∃ w w' d d',
    exec (.cmd4QueueMove 0#8 c1 c2 c3 p4 p5) s = .next { s with hostQueue := s.hostQueue ++ [w, w'] } ∧
    decodeHost w = .wrCwCreepSteps .zero d ∧ IsCount c1 c2 c3 d ∧
    decodeHost w' = .wrShadowFlags .zero d' ∧ IsLoadedShadow s .zero 0x01#8 d'

/-- Command 4 with any other select code completes: it issues the write of the count, if the target names a counter, and the
write of the shadow word with the target's bits, or nothing if the code names no target (43 R214). The open select codes are
entry 20, the order of the writes entry 21, the word ORed into entry 29. -/
def Obligations.QueueMoveAnySelect : Prop :=
  ∀ (s : State) (select c1 c2 c3 p4 p5 : Byte), select ≠ 0#8 →
    (Config.cmd4SelectOther select = none → exec (.cmd4QueueMove select c1 c2 c3 p4 p5) s = .next s) ∧
    (∀ g, Config.cmd4SelectOther select = some g → ∃ ws d d',
      exec (.cmd4QueueMove select c1 c2 c3 p4 p5) s = .next { s with hostQueue := s.hostQueue ++ ws } ∧
      ws.map decodeHost = (match g.counter with | some k => [counterWrite g.axis k d] | none => []) ++
        [.wrShadowFlags g.axis d'] ∧
      IsCount c1 c2 c3 d ∧ IsLoadedShadow s g.axis g.flags d')

/-- Command 7 replays the move table: it issues what the table's commands issue one after the other, then the commit write
with a bit for each axis the table loads; an empty table has no effect (43 R215, R216). Which axes a command loads, and whether the
table is kept, are entry 22. -/
def Obligations.ExecuteReplaysTheTable : Prop :=
  ∀ s : State, NoTriggerBuffered s →
    (s.moveTable = [] → exec .cmd7Execute s = .next s) ∧
    (s.moveTable ≠ [] → ∃ ws w mask table,
      exec .cmd7Execute s = .next { s with hostQueue := s.hostQueue ++ ws ++ [w], moveTable := table } ∧
      (table = [] ∨ table = s.moveTable) ∧
      execAll (s.moveTable.map commandInstr) s = .next { s with hostQueue := s.hostQueue ++ ws } ∧
      decodeHost w = .wrCommit mask ∧ mask.toNat < 4 ∧
      ∀ m, mask.getLsbD (number m) = true ↔
        ∃ select c1 c2 c3 p4 p5 g, Command.queueMove select c1 c2 c3 p4 p5 ∈ s.moveTable ∧
          cmd4Select select = some g ∧ g.axis = m)

/-- A transition of the sync line executes the move table as command 7 does (43 R215; the turn is the model's, entries 1 and
24). -/
def Obligations.SyncLineExecutesTheTable : Prop :=
  ∀ (s : State) (rest : List Turn), s.turns = .sync :: rest → step s = exec .cmd7Execute { s with turns := rest }

/-- A move table whose checksum does not match is discarded: nothing else changes, and command 7 then has no effect (43 R216;
the turn is the model's, entries 1 and 24). -/
def Obligations.RejectedTableHasNoEffect : Prop :=
  ∀ (s : State) (rest : List Turn), s.turns = .rejectTable :: rest → ∃ t, step s = .next t ∧
    t = { s with turns := rest, moveTable := [] } ∧ exec .cmd7Execute t = .next t

/-- The third trigger (43 R215): an immediately-executable single command executes the buffered table, of which it is the last
command, with the commit of command 7; an execute command executes the table as it stands; a frame that is no command changes
nothing. Which frames are such commands, and that the command is the table's last, are entry 18; the turn is entry 1. -/
def Obligations.SingleCommandTriggersTheTable : Prop :=
  ∀ (s : State) (f : CanFrame) (rest : List Turn), s.turns = .canDispatch f :: rest →
    (∀ c, decodeCommand f = .ok c → c ≠ .execute →
      step s = exec .cmd7Execute { s with turns := rest, moveTable := s.moveTable ++ [c] }) ∧
    (decodeCommand f = .ok .execute → step s = exec .cmd7Execute { s with turns := rest }) ∧
    (∀ e, decodeCommand f = .error e → step s = .next { s with turns := rest })

/-- A received frame: ids 2, 3 and 4 with all their bytes are buffered in the move table, id 7 triggers it, and any other id
changes nothing (43 R211, R215). That a frame of one of these with too few bytes, or of more than 8, changes nothing, and that
bytes after a command's own are not looked at, is the model's choice (entry 23); so is that a frame of id 8 by itself changes
nothing, the verdict on the checksum being a turn of its own (43 R216; entry 24). The turn is entry 1, the buffering entry 18. -/
def Obligations.ReceivedFrames : Prop :=
  ∀ (s : State) (f : CanFrame) (rest : List Turn), s.turns = .canReceive f :: rest →
    (f.payload.length ≤ 8 →
      (∀ b0 b1 b2 b3 b4 b5 b6 b7 : Byte, f.id = 2#8 → f.payload = [b0, b1, b2, b3, b4, b5, b6, b7] →
        step s = .next { s with turns := rest, moveTable := s.moveTable ++ [.setCurrents b0 b1 b2 b3 b4 b5 b6 b7] }) ∧
      (∀ (b0 b1 b2 : Byte) (more : List Byte), f.id = 3#8 → f.payload = b0 :: b1 :: b2 :: more →
        step s = .next { s with turns := rest, moveTable := s.moveTable ++ [.setPeriods b0 b1 b2] }) ∧
      (∀ (b0 b1 b2 b3 b4 b5 : Byte) (more : List Byte), f.id = 4#8 → f.payload = b0 :: b1 :: b2 :: b3 :: b4 :: b5 :: more →
        step s = .next { s with turns := rest, moveTable := s.moveTable ++ [.queueMove b0 b1 b2 b3 b4 b5] }) ∧
      (f.id = 7#8 → step s = exec .cmd7Execute { s with turns := rest }) ∧
      (f.id ≠ 2#8 → f.id ≠ 3#8 → f.id ≠ 4#8 → f.id ≠ 7#8 → step s = .next { s with turns := rest })) ∧
    (f.id = 2#8 ∧ f.payload.length < 8 ∨ f.id = 3#8 ∧ f.payload.length < 3 ∨ f.id = 4#8 ∧ f.payload.length < 6 →
      step s = .next { s with turns := rest }) ∧
    (8 < f.payload.length → step s = .next { s with turns := rest })
end

