-- ==== Sys2Proof/Laws/Encoding.lean ====
section
/-! SUPPORT. The fields of a HOST word, in numbers, and what the decoders of its address say once. -/

namespace Sys2Proof

/-! ### The fields of a HOST word (30 R106) -/

theorem writeWord_toNat (a : HostAddr) (d : Data) :
    (writeWord a d).toNat = 0x8000000000 + a.toNat * 0x100000000 + d.toNat := by
  unfold writeWord
  rw [BitVec.toNat_append, BitVec.toNat_append, ← Nat.shiftLeft_add_eq_or_of_lt (by exact (a ++ d).isLt),
    ← Nat.shiftLeft_add_eq_or_of_lt d.isLt]
  simp [Nat.shiftLeft_eq]
  omega

theorem readWord_toNat (a : HostAddr) : (readWord a).toNat = a.toNat * 0x100000000 := by
  unfold readWord
  rw [BitVec.toNat_append, BitVec.toNat_append, ← Nat.shiftLeft_add_eq_or_of_lt (by exact (a ++ 0#32).isLt),
    ← Nat.shiftLeft_add_eq_or_of_lt (0#32).isLt]
  simp [Nat.shiftLeft_eq]

theorem hostAddr_toNat (w : HostWord) : (hostAddr w).toNat = w.toNat / 0x100000000 % 128 := by
  simp [hostAddr, Nat.shiftRight_eq_div_pow]

theorem hostData_toNat (w : HostWord) : (hostData w).toNat = w.toNat % 0x100000000 := by
  simp [hostData]

theorem hostWrite_eq (w : HostWord) : hostWrite w = decide (0x8000000000 ≤ w.toNat) := by
  have := w.isLt
  have h : w.toNat / 2 ^ 39 = if 0x8000000000 ≤ w.toNat then 1 else 0 := by split <;> omega
  simp only [hostWrite, BitVec.getLsbD, Nat.testBit, Nat.shiftRight_eq_div_pow, h]
  split <;> simp_all

@[simp] theorem hostWrite_writeWord (a : HostAddr) (d : Data) : hostWrite (writeWord a d) = true := by
  rw [hostWrite_eq, writeWord_toNat]; simp; omega

@[simp] theorem hostAddr_writeWord (a : HostAddr) (d : Data) : hostAddr (writeWord a d) = a := by
  apply BitVec.eq_of_toNat_eq
  rw [hostAddr_toNat, writeWord_toNat]
  have := a.isLt; have := d.isLt; omega

@[simp] theorem hostData_writeWord (a : HostAddr) (d : Data) : hostData (writeWord a d) = d := by
  apply BitVec.eq_of_toNat_eq
  rw [hostData_toNat, writeWord_toNat]
  have := a.isLt; have := d.isLt; omega

@[simp] theorem hostWrite_readWord (a : HostAddr) : hostWrite (readWord a) = false := by
  rw [hostWrite_eq, readWord_toNat]; have := a.isLt; simp; omega

@[simp] theorem hostAddr_readWord (a : HostAddr) : hostAddr (readWord a) = a := by
  apply BitVec.eq_of_toNat_eq
  rw [hostAddr_toNat, readWord_toNat]
  have := a.isLt; omega

/-- A HOST word with `W = 1` is its address and its data. -/
theorem writeWord_fields (w : HostWord) (h : hostWrite w = true) : writeWord (hostAddr w) (hostData w) = w := by
  apply BitVec.eq_of_toNat_eq
  rw [writeWord_toNat, hostAddr_toNat, hostData_toNat]
  rw [hostWrite_eq, decide_eq_true_eq] at h
  have := w.isLt; omega

/-! ### Addresses (30 R107) -/

theorem globalAddr_extract (a : HostAddr) (h : a.getLsbD 6 = false) : globalAddr (a.extractLsb' 0 6) = a := by
  revert a; decide

theorem axisAddr_extract (a : HostAddr) (h : a.getLsbD 6 = true) :
    axisAddr (axisOfBit (a.getLsbD 5)) (a.extractLsb' 0 5) = a := by
  revert a; decide

@[simp] theorem axisOfBit_axisAddr (m : Axis) (r : BitVec 5) : axisOfBit (axisAddr m r)[5] = m := by
  cases m <;> revert r <;> decide

@[simp] theorem axisAddr_bank (m : Axis) (r : BitVec 5) : (axisAddr m r)[6] = true := by
  cases m <;> revert r <;> decide

@[simp] theorem axisAddr_register (m : Axis) (r : BitVec 5) : (axisAddr m r).extractLsb' 0 5 = r := by
  cases m <;> revert r <;> decide

@[simp] theorem globalAddr_bank (r : BitVec 6) : (globalAddr r)[6] = false := by revert r; decide

@[simp] theorem globalAddr_register (r : BitVec 6) : (globalAddr r).extractLsb' 0 6 = r := by revert r; decide

/-! ### The decoder of a HOST word -/

theorem decodeHost_writeWord (a : HostAddr) (d : Data) :
    decodeHost (writeWord a d) = if a.getLsbD 6 then decodeAxisWrite a d else decodeGlobalWrite a d := by
  simp [decodeHost]

@[simp] theorem decodeHost_readWord (a : HostAddr) : decodeHost (readWord a) = .rd a := by
  simp [decodeHost]

/-- An address of the global bank with no write row is ignored (30 R108). -/
theorem decodeGlobalWrite_ignored (a : HostAddr) (d : Data) (h : a.getLsbD 6 = false) (hw : writableGlobal a = false) :
    decodeGlobalWrite a d = .wrIgnored a d := by
  have hr : (a.extractLsb' 0 6).toNat ≠ 0 ∧ (a.extractLsb' 0 6).toNat ≠ 1 ∧ (a.extractLsb' 0 6).toNat ≠ 3 ∧
      (a.extractLsb' 0 6).toNat ≠ 4 := by
    revert a; decide
  unfold decodeGlobalWrite
  split <;> simp_all

/-- An address of an axis bank with no write row is ignored (30 R109). -/
theorem decodeAxisWrite_ignored (a : HostAddr) (d : Data) (h : a.getLsbD 6 = true) (hw : writableAxis a = false) :
    decodeAxisWrite a d = .wrIgnored a d := by
  simp only [writableAxis, h, Bool.true_and] at hw
  unfold decodeAxisWrite
  split <;> simp_all

end Sys2Proof
end

