-- ==== Sys2Proof/Laws/State.lean ====
section
/-! SUPPORT. One lemma per field per update: what each update of a state or an axis leaves as it was, and what it writes. -/

namespace Sys2Proof.Machine

/-! ### Axes of a state -/

@[simp] theorem State.axis_zero (s : State) : s.axis .zero = s.ax0 := rfl
@[simp] theorem State.axis_one (s : State) : s.axis .one = s.ax1 := rfl
@[simp] theorem State.rev_zero (s : State) : s.rev .zero = s.rev0 := rfl
@[simp] theorem State.rev_one (s : State) : s.rev .one = s.rev1 := rfl
@[simp] theorem State.setAxis_zero (s : State) (a : AxisState) : s.setAxis .zero a = { s with ax0 := a } := rfl
@[simp] theorem State.setAxis_one (s : State) (a : AxisState) : s.setAxis .one a = { s with ax1 := a } := rfl

@[simp] theorem State.setAxis_axis_self (s : State) (m : Axis) (a : AxisState) : (s.setAxis m a).axis m = a := by
  cases m <;> rfl

theorem State.setAxis_axis_ne (s : State) (m m' : Axis) (a : AxisState) (h : m' ≠ m) :
    (s.setAxis m a).axis m' = s.axis m' := by
  cases m <;> cases m' <;> first | rfl | exact absurd rfl h

@[simp] theorem State.setAxis_self (s : State) (m : Axis) : s.setAxis m (s.axis m) = s := by cases m <;> rfl

@[simp] theorem State.setAxis_rev (s : State) (m m' : Axis) (a : AxisState) : (s.setAxis m a).rev m' = s.rev m' := by
  cases m <;> cases m' <;> rfl

@[simp] theorem State.setAxis_spinPeriod (s : State) (m : Axis) (a : AxisState) : (s.setAxis m a).spinPeriod = s.spinPeriod := by
  cases m <;> rfl

@[simp] theorem State.setAxis_commit (s : State) (m : Axis) (a : AxisState) : (s.setAxis m a).commit = s.commit := by
  cases m <;> rfl

@[simp] theorem State.setAxis_cen (s : State) (m : Axis) (a : AxisState) : (s.setAxis m a).cen = s.cen := by
  cases m <;> rfl

@[simp] theorem State.setAxis_uie (s : State) (m : Axis) (a : AxisState) : (s.setAxis m a).uie = s.uie := by
  cases m <;> rfl

@[simp] theorem State.setAxis_uif (s : State) (m : Axis) (a : AxisState) : (s.setAxis m a).uif = s.uif := by
  cases m <;> rfl

@[simp] theorem State.setAxis_timPeriod (s : State) (m : Axis) (a : AxisState) : (s.setAxis m a).timPeriod = s.timPeriod := by
  cases m <;> rfl

@[simp] theorem State.setAxis_cnt (s : State) (m : Axis) (a : AxisState) : (s.setAxis m a).cnt = s.cnt := by
  cases m <;> rfl

@[simp] theorem State.setAxis_rev0 (s : State) (m : Axis) (a : AxisState) : (s.setAxis m a).rev0 = s.rev0 := by
  cases m <;> rfl

@[simp] theorem State.setAxis_rev1 (s : State) (m : Axis) (a : AxisState) : (s.setAxis m a).rev1 = s.rev1 := by
  cases m <;> rfl

@[simp] theorem State.setAxis_turns (s : State) (m : Axis) (a : AxisState) : (s.setAxis m a).turns = s.turns := by
  cases m <;> rfl

@[simp] theorem State.setAxis_readData (s : State) (m : Axis) (a : AxisState) : (s.setAxis m a).readData = s.readData := by
  cases m <;> rfl

@[simp] theorem State.setAxis_hostQueue (s : State) (m : Axis) (a : AxisState) : (s.setAxis m a).hostQueue = s.hostQueue := by
  cases m <;> rfl

@[simp] theorem State.setAxis_moveTable (s : State) (m : Axis) (a : AxisState) : (s.setAxis m a).moveTable = s.moveTable := by
  cases m <;> rfl

/-! ### `WriteDuty` -/

@[simp] theorem writeDuty_phaseAngle (c : Config) (rev : Bool) (cur : BitVec 7) (a : AxisState) : (writeDuty c rev cur a).phaseAngle = a.phaseAngle := rfl

@[simp] theorem writeDuty_motionFlags (c : Config) (rev : Bool) (cur : BitVec 7) (a : AxisState) : (writeDuty c rev cur a).motionFlags = a.motionFlags := rfl

@[simp] theorem writeDuty_shadowFlags (c : Config) (rev : Bool) (cur : BitVec 7) (a : AxisState) : (writeDuty c rev cur a).shadowFlags = a.shadowFlags := rfl

@[simp] theorem writeDuty_spinPointer (c : Config) (rev : Bool) (cur : BitVec 7) (a : AxisState) : (writeDuty c rev cur a).spinPointer = a.spinPointer := rfl

@[simp] theorem writeDuty_spinSubcount (c : Config) (rev : Bool) (cur : BitVec 7) (a : AxisState) : (writeDuty c rev cur a).spinSubcount = a.spinSubcount := rfl

@[simp] theorem writeDuty_creepSubcount (c : Config) (rev : Bool) (cur : BitVec 7) (a : AxisState) : (writeDuty c rev cur a).creepSubcount = a.creepSubcount := rfl

@[simp] theorem writeDuty_cruiseSteps (c : Config) (rev : Bool) (cur : BitVec 7) (a : AxisState) : (writeDuty c rev cur a).cruiseSteps = a.cruiseSteps := rfl

@[simp] theorem writeDuty_cwCreepSteps (c : Config) (rev : Bool) (cur : BitVec 7) (a : AxisState) : (writeDuty c rev cur a).cwCreepSteps = a.cwCreepSteps := rfl

@[simp] theorem writeDuty_ccwCreepSteps (c : Config) (rev : Bool) (cur : BitVec 7) (a : AxisState) : (writeDuty c rev cur a).ccwCreepSteps = a.ccwCreepSteps := rfl

@[simp] theorem writeDuty_cwCreepCurOp (c : Config) (rev : Bool) (cur : BitVec 7) (a : AxisState) : (writeDuty c rev cur a).cwCreepCurOp = a.cwCreepCurOp := rfl

@[simp] theorem writeDuty_ccwCreepCurOp (c : Config) (rev : Bool) (cur : BitVec 7) (a : AxisState) : (writeDuty c rev cur a).ccwCreepCurOp = a.ccwCreepCurOp := rfl

@[simp] theorem writeDuty_curSpinup (c : Config) (rev : Bool) (cur : BitVec 7) (a : AxisState) : (writeDuty c rev cur a).curSpinup = a.curSpinup := rfl

@[simp] theorem writeDuty_curCruise (c : Config) (rev : Bool) (cur : BitVec 7) (a : AxisState) : (writeDuty c rev cur a).curCruise = a.curCruise := rfl

@[simp] theorem writeDuty_curSpindown (c : Config) (rev : Bool) (cur : BitVec 7) (a : AxisState) : (writeDuty c rev cur a).curSpindown = a.curSpindown := rfl

@[simp] theorem writeDuty_curCreep (c : Config) (rev : Bool) (cur : BitVec 7) (a : AxisState) : (writeDuty c rev cur a).curCreep = a.curCreep := rfl

@[simp] theorem writeDuty_curDrop (c : Config) (rev : Bool) (cur : BitVec 7) (a : AxisState) : (writeDuty c rev cur a).curDrop = a.curDrop := rfl

@[simp] theorem writeDuty_creepPeriod (c : Config) (rev : Bool) (cur : BitVec 7) (a : AxisState) : (writeDuty c rev cur a).creepPeriod = a.creepPeriod := rfl

@[simp] theorem writeDuty_bump (c : Config) (rev : Bool) (cur : BitVec 7) (a : AxisState) : (writeDuty c rev cur a).bump = a.bump := rfl

@[simp] theorem writeDuty_pwmCcr0 (c : Config) (rev : Bool) (cur : BitVec 7) (a : AxisState) :
    (writeDuty c rev cur a).pwmCcr0 = duty c cur a.phaseAngle.toNat := rfl

@[simp] theorem writeDuty_pwmCcr1 (c : Config) (rev : Bool) (cur : BitVec 7) (a : AxisState) :
    (writeDuty c rev cur a).pwmCcr1 = duty c cur (a.phaseAngle.toNat + offsetA c rev) := rfl

@[simp] theorem writeDuty_pwmCcr2 (c : Config) (rev : Bool) (cur : BitVec 7) (a : AxisState) :
    (writeDuty c rev cur a).pwmCcr2 = duty c cur (a.phaseAngle.toNat + offsetB c rev) := rfl

/-! ### `Advance` -/

@[simp] theorem advance_phaseAngle (c : Config) (d : Int) (a : AxisState) :
    (advance c d a).phaseAngle = BitVec.ofNat 12 (((a.phaseAngle.toNat : Int) + d) % (c.phaseMod : Int)).toNat := rfl

@[simp] theorem advance_motionFlags (c : Config) (d : Int) (a : AxisState) : (advance c d a).motionFlags = a.motionFlags := rfl

@[simp] theorem advance_shadowFlags (c : Config) (d : Int) (a : AxisState) : (advance c d a).shadowFlags = a.shadowFlags := rfl

@[simp] theorem advance_spinPointer (c : Config) (d : Int) (a : AxisState) : (advance c d a).spinPointer = a.spinPointer := rfl

@[simp] theorem advance_spinSubcount (c : Config) (d : Int) (a : AxisState) : (advance c d a).spinSubcount = a.spinSubcount := rfl

@[simp] theorem advance_creepSubcount (c : Config) (d : Int) (a : AxisState) : (advance c d a).creepSubcount = a.creepSubcount := rfl

@[simp] theorem advance_cruiseSteps (c : Config) (d : Int) (a : AxisState) : (advance c d a).cruiseSteps = a.cruiseSteps := rfl

@[simp] theorem advance_cwCreepSteps (c : Config) (d : Int) (a : AxisState) : (advance c d a).cwCreepSteps = a.cwCreepSteps := rfl

@[simp] theorem advance_ccwCreepSteps (c : Config) (d : Int) (a : AxisState) : (advance c d a).ccwCreepSteps = a.ccwCreepSteps := rfl

@[simp] theorem advance_cwCreepCurOp (c : Config) (d : Int) (a : AxisState) : (advance c d a).cwCreepCurOp = a.cwCreepCurOp := rfl

@[simp] theorem advance_ccwCreepCurOp (c : Config) (d : Int) (a : AxisState) : (advance c d a).ccwCreepCurOp = a.ccwCreepCurOp := rfl

@[simp] theorem advance_curSpinup (c : Config) (d : Int) (a : AxisState) : (advance c d a).curSpinup = a.curSpinup := rfl

@[simp] theorem advance_curCruise (c : Config) (d : Int) (a : AxisState) : (advance c d a).curCruise = a.curCruise := rfl

@[simp] theorem advance_curSpindown (c : Config) (d : Int) (a : AxisState) : (advance c d a).curSpindown = a.curSpindown := rfl

@[simp] theorem advance_curCreep (c : Config) (d : Int) (a : AxisState) : (advance c d a).curCreep = a.curCreep := rfl

@[simp] theorem advance_curDrop (c : Config) (d : Int) (a : AxisState) : (advance c d a).curDrop = a.curDrop := rfl

@[simp] theorem advance_creepPeriod (c : Config) (d : Int) (a : AxisState) : (advance c d a).creepPeriod = a.creepPeriod := rfl

@[simp] theorem advance_bump (c : Config) (d : Int) (a : AxisState) : (advance c d a).bump = a.bump := rfl

@[simp] theorem advance_pwmCcr0 (c : Config) (d : Int) (a : AxisState) : (advance c d a).pwmCcr0 = a.pwmCcr0 := rfl

@[simp] theorem advance_pwmCcr1 (c : Config) (d : Int) (a : AxisState) : (advance c d a).pwmCcr1 = a.pwmCcr1 := rfl

@[simp] theorem advance_pwmCcr2 (c : Config) (d : Int) (a : AxisState) : (advance c d a).pwmCcr2 = a.pwmCcr2 := rfl

/-! ### The creep sub-count -/

@[simp] theorem countCreepTick_phaseAngle (a : AxisState) : (countCreepTick a).phaseAngle = a.phaseAngle := rfl

@[simp] theorem countCreepTick_motionFlags (a : AxisState) : (countCreepTick a).motionFlags = a.motionFlags := rfl

@[simp] theorem countCreepTick_shadowFlags (a : AxisState) : (countCreepTick a).shadowFlags = a.shadowFlags := rfl

@[simp] theorem countCreepTick_spinPointer (a : AxisState) : (countCreepTick a).spinPointer = a.spinPointer := rfl

@[simp] theorem countCreepTick_spinSubcount (a : AxisState) : (countCreepTick a).spinSubcount = a.spinSubcount := rfl

@[simp] theorem countCreepTick_creepSubcount (a : AxisState) :
    (countCreepTick a).creepSubcount = if creepStepDue a then 0#8 else a.creepSubcount + 1#8 := rfl

@[simp] theorem countCreepTick_cruiseSteps (a : AxisState) : (countCreepTick a).cruiseSteps = a.cruiseSteps := rfl

@[simp] theorem countCreepTick_cwCreepSteps (a : AxisState) : (countCreepTick a).cwCreepSteps = a.cwCreepSteps := rfl

@[simp] theorem countCreepTick_ccwCreepSteps (a : AxisState) : (countCreepTick a).ccwCreepSteps = a.ccwCreepSteps := rfl

@[simp] theorem countCreepTick_cwCreepCurOp (a : AxisState) : (countCreepTick a).cwCreepCurOp = a.cwCreepCurOp := rfl

@[simp] theorem countCreepTick_ccwCreepCurOp (a : AxisState) : (countCreepTick a).ccwCreepCurOp = a.ccwCreepCurOp := rfl

@[simp] theorem countCreepTick_curSpinup (a : AxisState) : (countCreepTick a).curSpinup = a.curSpinup := rfl

@[simp] theorem countCreepTick_curCruise (a : AxisState) : (countCreepTick a).curCruise = a.curCruise := rfl

@[simp] theorem countCreepTick_curSpindown (a : AxisState) : (countCreepTick a).curSpindown = a.curSpindown := rfl

@[simp] theorem countCreepTick_curCreep (a : AxisState) : (countCreepTick a).curCreep = a.curCreep := rfl

@[simp] theorem countCreepTick_curDrop (a : AxisState) : (countCreepTick a).curDrop = a.curDrop := rfl

@[simp] theorem countCreepTick_creepPeriod (a : AxisState) : (countCreepTick a).creepPeriod = a.creepPeriod := rfl

@[simp] theorem countCreepTick_bump (a : AxisState) : (countCreepTick a).bump = a.bump := rfl

@[simp] theorem countCreepTick_pwmCcr0 (a : AxisState) : (countCreepTick a).pwmCcr0 = a.pwmCcr0 := rfl

@[simp] theorem countCreepTick_pwmCcr1 (a : AxisState) : (countCreepTick a).pwmCcr1 = a.pwmCcr1 := rfl

@[simp] theorem countCreepTick_pwmCcr2 (a : AxisState) : (countCreepTick a).pwmCcr2 = a.pwmCcr2 := rfl

/-! ### The commit hand-off -/

@[simp] theorem handoff_phaseAngle (a : AxisState) : (handoff a).phaseAngle = a.phaseAngle := rfl

@[simp] theorem handoff_motionFlags (a : AxisState) :
    (handoff a).motionFlags = a.shadowFlags := rfl

@[simp] theorem handoff_shadowFlags (a : AxisState) : (handoff a).shadowFlags = a.shadowFlags := rfl

@[simp] theorem handoff_spinPointer (a : AxisState) : (handoff a).spinPointer = a.spinPointer := rfl

@[simp] theorem handoff_spinSubcount (a : AxisState) : (handoff a).spinSubcount = a.spinSubcount := rfl

@[simp] theorem handoff_creepSubcount (a : AxisState) : (handoff a).creepSubcount = a.creepSubcount := rfl

@[simp] theorem handoff_cruiseSteps (a : AxisState) : (handoff a).cruiseSteps = a.cruiseSteps := rfl

@[simp] theorem handoff_cwCreepSteps (a : AxisState) : (handoff a).cwCreepSteps = a.cwCreepSteps := rfl

@[simp] theorem handoff_ccwCreepSteps (a : AxisState) : (handoff a).ccwCreepSteps = a.ccwCreepSteps := rfl

@[simp] theorem handoff_cwCreepCurOp (a : AxisState) :
    (handoff a).cwCreepCurOp = a.curCreep := rfl

@[simp] theorem handoff_ccwCreepCurOp (a : AxisState) :
    (handoff a).ccwCreepCurOp = a.curCreep := rfl

@[simp] theorem handoff_curSpinup (a : AxisState) : (handoff a).curSpinup = a.curSpinup := rfl

@[simp] theorem handoff_curCruise (a : AxisState) : (handoff a).curCruise = a.curCruise := rfl

@[simp] theorem handoff_curSpindown (a : AxisState) : (handoff a).curSpindown = a.curSpindown := rfl

@[simp] theorem handoff_curCreep (a : AxisState) : (handoff a).curCreep = a.curCreep := rfl

@[simp] theorem handoff_curDrop (a : AxisState) : (handoff a).curDrop = a.curDrop := rfl

@[simp] theorem handoff_creepPeriod (a : AxisState) : (handoff a).creepPeriod = a.creepPeriod := rfl

@[simp] theorem handoff_bump (a : AxisState) : (handoff a).bump = a.bump := rfl

@[simp] theorem handoff_pwmCcr0 (a : AxisState) : (handoff a).pwmCcr0 = a.pwmCcr0 := rfl

@[simp] theorem handoff_pwmCcr1 (a : AxisState) : (handoff a).pwmCcr1 = a.pwmCcr1 := rfl

@[simp] theorem handoff_pwmCcr2 (a : AxisState) : (handoff a).pwmCcr2 = a.pwmCcr2 := rfl

/-! ### `Complete` -/

@[simp] theorem complete_phaseAngle (c : Config) (rev : Bool) (b : Nat) (a : AxisState) :
    (complete c rev b a).phaseAngle = a.phaseAngle := by
  unfold complete; split <;> rfl

@[simp] theorem complete_motionFlags (c : Config) (rev : Bool) (b : Nat) (a : AxisState) :
    (complete c rev b a).motionFlags = clearStageBit a.motionFlags b := by
  unfold complete; split <;> rfl

@[simp] theorem complete_shadowFlags (c : Config) (rev : Bool) (b : Nat) (a : AxisState) :
    (complete c rev b a).shadowFlags = a.shadowFlags := by
  unfold complete; split <;> rfl

@[simp] theorem complete_spinPointer (c : Config) (rev : Bool) (b : Nat) (a : AxisState) :
    (complete c rev b a).spinPointer = a.spinPointer := by
  unfold complete; split <;> rfl

@[simp] theorem complete_spinSubcount (c : Config) (rev : Bool) (b : Nat) (a : AxisState) :
    (complete c rev b a).spinSubcount = a.spinSubcount := by
  unfold complete; split <;> rfl

@[simp] theorem complete_creepSubcount (c : Config) (rev : Bool) (b : Nat) (a : AxisState) :
    (complete c rev b a).creepSubcount = a.creepSubcount := by
  unfold complete; split <;> rfl

@[simp] theorem complete_cruiseSteps (c : Config) (rev : Bool) (b : Nat) (a : AxisState) :
    (complete c rev b a).cruiseSteps = a.cruiseSteps := by
  unfold complete; split <;> rfl

@[simp] theorem complete_cwCreepSteps (c : Config) (rev : Bool) (b : Nat) (a : AxisState) :
    (complete c rev b a).cwCreepSteps = a.cwCreepSteps := by
  unfold complete; split <;> rfl

@[simp] theorem complete_ccwCreepSteps (c : Config) (rev : Bool) (b : Nat) (a : AxisState) :
    (complete c rev b a).ccwCreepSteps = a.ccwCreepSteps := by
  unfold complete; split <;> rfl

@[simp] theorem complete_cwCreepCurOp (c : Config) (rev : Bool) (b : Nat) (a : AxisState) :
    (complete c rev b a).cwCreepCurOp = a.cwCreepCurOp := by
  unfold complete; split <;> rfl

@[simp] theorem complete_ccwCreepCurOp (c : Config) (rev : Bool) (b : Nat) (a : AxisState) :
    (complete c rev b a).ccwCreepCurOp = a.ccwCreepCurOp := by
  unfold complete; split <;> rfl

@[simp] theorem complete_curSpinup (c : Config) (rev : Bool) (b : Nat) (a : AxisState) :
    (complete c rev b a).curSpinup = a.curSpinup := by
  unfold complete; split <;> rfl

@[simp] theorem complete_curCruise (c : Config) (rev : Bool) (b : Nat) (a : AxisState) :
    (complete c rev b a).curCruise = a.curCruise := by
  unfold complete; split <;> rfl

@[simp] theorem complete_curSpindown (c : Config) (rev : Bool) (b : Nat) (a : AxisState) :
    (complete c rev b a).curSpindown = a.curSpindown := by
  unfold complete; split <;> rfl

@[simp] theorem complete_curCreep (c : Config) (rev : Bool) (b : Nat) (a : AxisState) :
    (complete c rev b a).curCreep = a.curCreep := by
  unfold complete; split <;> rfl

@[simp] theorem complete_curDrop (c : Config) (rev : Bool) (b : Nat) (a : AxisState) :
    (complete c rev b a).curDrop = a.curDrop := by
  unfold complete; split <;> rfl

@[simp] theorem complete_creepPeriod (c : Config) (rev : Bool) (b : Nat) (a : AxisState) :
    (complete c rev b a).creepPeriod = a.creepPeriod := by
  unfold complete; split <;> rfl

@[simp] theorem complete_bump (c : Config) (rev : Bool) (b : Nat) (a : AxisState) :
    (complete c rev b a).bump = a.bump := by
  unfold complete; split <;> rfl

/-! ### The bump -/

@[simp] theorem bumpCwCreep_phaseAngle (c : Config) (a : AxisState) : (bumpCwCreep c a).phaseAngle = a.phaseAngle := by
  unfold bumpCwCreep; split <;> rfl

@[simp] theorem bumpCwCreep_motionFlags (c : Config) (a : AxisState) : (bumpCwCreep c a).motionFlags = a.motionFlags := by
  unfold bumpCwCreep; split <;> rfl

@[simp] theorem bumpCwCreep_shadowFlags (c : Config) (a : AxisState) : (bumpCwCreep c a).shadowFlags = a.shadowFlags := by
  unfold bumpCwCreep; split <;> rfl

@[simp] theorem bumpCwCreep_spinPointer (c : Config) (a : AxisState) : (bumpCwCreep c a).spinPointer = a.spinPointer := by
  unfold bumpCwCreep; split <;> rfl

@[simp] theorem bumpCwCreep_spinSubcount (c : Config) (a : AxisState) : (bumpCwCreep c a).spinSubcount = a.spinSubcount := by
  unfold bumpCwCreep; split <;> rfl

@[simp] theorem bumpCwCreep_creepSubcount (c : Config) (a : AxisState) : (bumpCwCreep c a).creepSubcount = a.creepSubcount := by
  unfold bumpCwCreep; split <;> rfl

@[simp] theorem bumpCwCreep_cruiseSteps (c : Config) (a : AxisState) : (bumpCwCreep c a).cruiseSteps = a.cruiseSteps := by
  unfold bumpCwCreep; split <;> rfl

@[simp] theorem bumpCwCreep_cwCreepSteps (c : Config) (a : AxisState) : (bumpCwCreep c a).cwCreepSteps = a.cwCreepSteps := by
  unfold bumpCwCreep; split <;> rfl

@[simp] theorem bumpCwCreep_ccwCreepSteps (c : Config) (a : AxisState) : (bumpCwCreep c a).ccwCreepSteps = a.ccwCreepSteps := by
  unfold bumpCwCreep; split <;> rfl

@[simp] theorem bumpCwCreep_ccwCreepCurOp (c : Config) (a : AxisState) : (bumpCwCreep c a).ccwCreepCurOp = a.ccwCreepCurOp := by
  unfold bumpCwCreep; split <;> rfl

@[simp] theorem bumpCwCreep_curSpinup (c : Config) (a : AxisState) : (bumpCwCreep c a).curSpinup = a.curSpinup := by
  unfold bumpCwCreep; split <;> rfl

@[simp] theorem bumpCwCreep_curCruise (c : Config) (a : AxisState) : (bumpCwCreep c a).curCruise = a.curCruise := by
  unfold bumpCwCreep; split <;> rfl

@[simp] theorem bumpCwCreep_curSpindown (c : Config) (a : AxisState) : (bumpCwCreep c a).curSpindown = a.curSpindown := by
  unfold bumpCwCreep; split <;> rfl

@[simp] theorem bumpCwCreep_curCreep (c : Config) (a : AxisState) : (bumpCwCreep c a).curCreep = a.curCreep := by
  unfold bumpCwCreep; split <;> rfl

@[simp] theorem bumpCwCreep_curDrop (c : Config) (a : AxisState) : (bumpCwCreep c a).curDrop = a.curDrop := by
  unfold bumpCwCreep; split <;> rfl

@[simp] theorem bumpCwCreep_creepPeriod (c : Config) (a : AxisState) : (bumpCwCreep c a).creepPeriod = a.creepPeriod := by
  unfold bumpCwCreep; split <;> rfl

@[simp] theorem bumpCwCreep_bump (c : Config) (a : AxisState) : (bumpCwCreep c a).bump = a.bump := by
  unfold bumpCwCreep; split <;> rfl

@[simp] theorem bumpCwCreep_pwmCcr0 (c : Config) (a : AxisState) : (bumpCwCreep c a).pwmCcr0 = a.pwmCcr0 := by
  unfold bumpCwCreep; split <;> rfl

@[simp] theorem bumpCwCreep_pwmCcr1 (c : Config) (a : AxisState) : (bumpCwCreep c a).pwmCcr1 = a.pwmCcr1 := by
  unfold bumpCwCreep; split <;> rfl

@[simp] theorem bumpCwCreep_pwmCcr2 (c : Config) (a : AxisState) : (bumpCwCreep c a).pwmCcr2 = a.pwmCcr2 := by
  unfold bumpCwCreep; split <;> rfl

@[simp] theorem bumpCcwCreep_phaseAngle (c : Config) (a : AxisState) : (bumpCcwCreep c a).phaseAngle = a.phaseAngle := by
  unfold bumpCcwCreep; split <;> rfl

@[simp] theorem bumpCcwCreep_motionFlags (c : Config) (a : AxisState) : (bumpCcwCreep c a).motionFlags = a.motionFlags := by
  unfold bumpCcwCreep; split <;> rfl

@[simp] theorem bumpCcwCreep_shadowFlags (c : Config) (a : AxisState) : (bumpCcwCreep c a).shadowFlags = a.shadowFlags := by
  unfold bumpCcwCreep; split <;> rfl

@[simp] theorem bumpCcwCreep_spinPointer (c : Config) (a : AxisState) : (bumpCcwCreep c a).spinPointer = a.spinPointer := by
  unfold bumpCcwCreep; split <;> rfl

@[simp] theorem bumpCcwCreep_spinSubcount (c : Config) (a : AxisState) : (bumpCcwCreep c a).spinSubcount = a.spinSubcount := by
  unfold bumpCcwCreep; split <;> rfl

@[simp] theorem bumpCcwCreep_creepSubcount (c : Config) (a : AxisState) : (bumpCcwCreep c a).creepSubcount = a.creepSubcount := by
  unfold bumpCcwCreep; split <;> rfl

@[simp] theorem bumpCcwCreep_cruiseSteps (c : Config) (a : AxisState) : (bumpCcwCreep c a).cruiseSteps = a.cruiseSteps := by
  unfold bumpCcwCreep; split <;> rfl

@[simp] theorem bumpCcwCreep_cwCreepSteps (c : Config) (a : AxisState) : (bumpCcwCreep c a).cwCreepSteps = a.cwCreepSteps := by
  unfold bumpCcwCreep; split <;> rfl

@[simp] theorem bumpCcwCreep_ccwCreepSteps (c : Config) (a : AxisState) : (bumpCcwCreep c a).ccwCreepSteps = a.ccwCreepSteps := by
  unfold bumpCcwCreep; split <;> rfl

@[simp] theorem bumpCcwCreep_cwCreepCurOp (c : Config) (a : AxisState) : (bumpCcwCreep c a).cwCreepCurOp = a.cwCreepCurOp := by
  unfold bumpCcwCreep; split <;> rfl

@[simp] theorem bumpCcwCreep_curSpinup (c : Config) (a : AxisState) : (bumpCcwCreep c a).curSpinup = a.curSpinup := by
  unfold bumpCcwCreep; split <;> rfl

@[simp] theorem bumpCcwCreep_curCruise (c : Config) (a : AxisState) : (bumpCcwCreep c a).curCruise = a.curCruise := by
  unfold bumpCcwCreep; split <;> rfl

@[simp] theorem bumpCcwCreep_curSpindown (c : Config) (a : AxisState) : (bumpCcwCreep c a).curSpindown = a.curSpindown := by
  unfold bumpCcwCreep; split <;> rfl

@[simp] theorem bumpCcwCreep_curCreep (c : Config) (a : AxisState) : (bumpCcwCreep c a).curCreep = a.curCreep := by
  unfold bumpCcwCreep; split <;> rfl

@[simp] theorem bumpCcwCreep_curDrop (c : Config) (a : AxisState) : (bumpCcwCreep c a).curDrop = a.curDrop := by
  unfold bumpCcwCreep; split <;> rfl

@[simp] theorem bumpCcwCreep_creepPeriod (c : Config) (a : AxisState) : (bumpCcwCreep c a).creepPeriod = a.creepPeriod := by
  unfold bumpCcwCreep; split <;> rfl

@[simp] theorem bumpCcwCreep_bump (c : Config) (a : AxisState) : (bumpCcwCreep c a).bump = a.bump := by
  unfold bumpCcwCreep; split <;> rfl

@[simp] theorem bumpCcwCreep_pwmCcr0 (c : Config) (a : AxisState) : (bumpCcwCreep c a).pwmCcr0 = a.pwmCcr0 := by
  unfold bumpCcwCreep; split <;> rfl

@[simp] theorem bumpCcwCreep_pwmCcr1 (c : Config) (a : AxisState) : (bumpCcwCreep c a).pwmCcr1 = a.pwmCcr1 := by
  unfold bumpCcwCreep; split <;> rfl

@[simp] theorem bumpCcwCreep_pwmCcr2 (c : Config) (a : AxisState) : (bumpCcwCreep c a).pwmCcr2 = a.pwmCcr2 := by
  unfold bumpCcwCreep; split <;> rfl

/-! ### The update event -/

@[simp] theorem updateEvent_ax0 (s : State) : (updateEvent s).ax0 = s.ax0 := rfl

@[simp] theorem updateEvent_ax1 (s : State) : (updateEvent s).ax1 = s.ax1 := rfl

@[simp] theorem updateEvent_spinPeriod (s : State) : (updateEvent s).spinPeriod = s.spinPeriod := rfl

@[simp] theorem updateEvent_commit (s : State) : (updateEvent s).commit = s.commit := rfl

@[simp] theorem updateEvent_cen (s : State) : (updateEvent s).cen = s.cen := rfl

@[simp] theorem updateEvent_uie (s : State) : (updateEvent s).uie = s.uie := rfl

@[simp] theorem updateEvent_uif (s : State) : (updateEvent s).uif = true := rfl

@[simp] theorem updateEvent_timPeriod (s : State) : (updateEvent s).timPeriod = s.timPeriod := rfl

@[simp] theorem updateEvent_cnt (s : State) : (updateEvent s).cnt = s.cnt := rfl

@[simp] theorem updateEvent_rev0 (s : State) : (updateEvent s).rev0 = s.rev0 := rfl

@[simp] theorem updateEvent_rev1 (s : State) : (updateEvent s).rev1 = s.rev1 := rfl

@[simp] theorem updateEvent_turns (s : State) : (updateEvent s).turns = s.turns := rfl

@[simp] theorem updateEvent_readData (s : State) : (updateEvent s).readData = s.readData := rfl

@[simp] theorem updateEvent_hostQueue (s : State) : (updateEvent s).hostQueue = s.hostQueue := rfl

@[simp] theorem updateEvent_moveTable (s : State) : (updateEvent s).moveTable = s.moveTable := rfl

/-! ### Taking the tick interrupt -/

@[simp] theorem takeTickInterrupt_ax0 (s : State) : (takeTickInterrupt s).ax0 = s.ax0 := rfl

@[simp] theorem takeTickInterrupt_ax1 (s : State) : (takeTickInterrupt s).ax1 = s.ax1 := rfl

@[simp] theorem takeTickInterrupt_spinPeriod (s : State) : (takeTickInterrupt s).spinPeriod = s.spinPeriod := rfl

@[simp] theorem takeTickInterrupt_commit (s : State) : (takeTickInterrupt s).commit = s.commit := rfl

@[simp] theorem takeTickInterrupt_cen (s : State) : (takeTickInterrupt s).cen = s.cen := rfl

@[simp] theorem takeTickInterrupt_uie (s : State) : (takeTickInterrupt s).uie = s.uie := rfl

@[simp] theorem takeTickInterrupt_uif (s : State) : (takeTickInterrupt s).uif = false := rfl

@[simp] theorem takeTickInterrupt_timPeriod (s : State) : (takeTickInterrupt s).timPeriod = s.timPeriod := rfl

@[simp] theorem takeTickInterrupt_cnt (s : State) : (takeTickInterrupt s).cnt = s.cnt := rfl

@[simp] theorem takeTickInterrupt_rev0 (s : State) : (takeTickInterrupt s).rev0 = s.rev0 := rfl

@[simp] theorem takeTickInterrupt_rev1 (s : State) : (takeTickInterrupt s).rev1 = s.rev1 := rfl

@[simp] theorem takeTickInterrupt_turns (s : State) : (takeTickInterrupt s).turns = s.turns := rfl

@[simp] theorem takeTickInterrupt_readData (s : State) : (takeTickInterrupt s).readData = s.readData := rfl

@[simp] theorem takeTickInterrupt_hostQueue (s : State) : (takeTickInterrupt s).hostQueue = s.hostQueue := rfl

@[simp] theorem takeTickInterrupt_moveTable (s : State) : (takeTickInterrupt s).moveTable = s.moveTable := rfl

/-! ### Issuing host transactions -/

@[simp] theorem issue_ax0 (ws : List HostWord) (s : State) : (issue ws s).ax0 = s.ax0 := rfl

@[simp] theorem issue_ax1 (ws : List HostWord) (s : State) : (issue ws s).ax1 = s.ax1 := rfl

@[simp] theorem issue_spinPeriod (ws : List HostWord) (s : State) : (issue ws s).spinPeriod = s.spinPeriod := rfl

@[simp] theorem issue_commit (ws : List HostWord) (s : State) : (issue ws s).commit = s.commit := rfl

@[simp] theorem issue_cen (ws : List HostWord) (s : State) : (issue ws s).cen = s.cen := rfl

@[simp] theorem issue_uie (ws : List HostWord) (s : State) : (issue ws s).uie = s.uie := rfl

@[simp] theorem issue_uif (ws : List HostWord) (s : State) : (issue ws s).uif = s.uif := rfl

@[simp] theorem issue_timPeriod (ws : List HostWord) (s : State) : (issue ws s).timPeriod = s.timPeriod := rfl

@[simp] theorem issue_cnt (ws : List HostWord) (s : State) : (issue ws s).cnt = s.cnt := rfl

@[simp] theorem issue_rev0 (ws : List HostWord) (s : State) : (issue ws s).rev0 = s.rev0 := rfl

@[simp] theorem issue_rev1 (ws : List HostWord) (s : State) : (issue ws s).rev1 = s.rev1 := rfl

@[simp] theorem issue_turns (ws : List HostWord) (s : State) : (issue ws s).turns = s.turns := rfl

@[simp] theorem issue_readData (ws : List HostWord) (s : State) : (issue ws s).readData = s.readData := rfl

@[simp] theorem issue_hostQueue (ws : List HostWord) (s : State) : (issue ws s).hostQueue = s.hostQueue ++ ws := rfl

@[simp] theorem issue_moveTable (ws : List HostWord) (s : State) : (issue ws s).moveTable = s.moveTable := rfl

/-! ### Buffering a command -/

@[simp] theorem bufferCommand_ax0 (k : Command) (s : State) : (bufferCommand k s).ax0 = s.ax0 := rfl

@[simp] theorem bufferCommand_ax1 (k : Command) (s : State) : (bufferCommand k s).ax1 = s.ax1 := rfl

@[simp] theorem bufferCommand_spinPeriod (k : Command) (s : State) : (bufferCommand k s).spinPeriod = s.spinPeriod := rfl

@[simp] theorem bufferCommand_commit (k : Command) (s : State) : (bufferCommand k s).commit = s.commit := rfl

@[simp] theorem bufferCommand_cen (k : Command) (s : State) : (bufferCommand k s).cen = s.cen := rfl

@[simp] theorem bufferCommand_uie (k : Command) (s : State) : (bufferCommand k s).uie = s.uie := rfl

@[simp] theorem bufferCommand_uif (k : Command) (s : State) : (bufferCommand k s).uif = s.uif := rfl

@[simp] theorem bufferCommand_timPeriod (k : Command) (s : State) : (bufferCommand k s).timPeriod = s.timPeriod := rfl

@[simp] theorem bufferCommand_cnt (k : Command) (s : State) : (bufferCommand k s).cnt = s.cnt := rfl

@[simp] theorem bufferCommand_rev0 (k : Command) (s : State) : (bufferCommand k s).rev0 = s.rev0 := rfl

@[simp] theorem bufferCommand_rev1 (k : Command) (s : State) : (bufferCommand k s).rev1 = s.rev1 := rfl

@[simp] theorem bufferCommand_turns (k : Command) (s : State) : (bufferCommand k s).turns = s.turns := rfl

@[simp] theorem bufferCommand_readData (k : Command) (s : State) : (bufferCommand k s).readData = s.readData := rfl

@[simp] theorem bufferCommand_hostQueue (k : Command) (s : State) : (bufferCommand k s).hostQueue = s.hostQueue := rfl

@[simp] theorem bufferCommand_moveTable (k : Command) (s : State) : (bufferCommand k s).moveTable = s.moveTable ++ [k] := rfl

/-! ### Discarding the move table -/

@[simp] theorem discardTable_ax0 (s : State) : (discardTable s).ax0 = s.ax0 := rfl

@[simp] theorem discardTable_ax1 (s : State) : (discardTable s).ax1 = s.ax1 := rfl

@[simp] theorem discardTable_spinPeriod (s : State) : (discardTable s).spinPeriod = s.spinPeriod := rfl

@[simp] theorem discardTable_commit (s : State) : (discardTable s).commit = s.commit := rfl

@[simp] theorem discardTable_cen (s : State) : (discardTable s).cen = s.cen := rfl

@[simp] theorem discardTable_uie (s : State) : (discardTable s).uie = s.uie := rfl

@[simp] theorem discardTable_uif (s : State) : (discardTable s).uif = s.uif := rfl

@[simp] theorem discardTable_timPeriod (s : State) : (discardTable s).timPeriod = s.timPeriod := rfl

@[simp] theorem discardTable_cnt (s : State) : (discardTable s).cnt = s.cnt := rfl

@[simp] theorem discardTable_rev0 (s : State) : (discardTable s).rev0 = s.rev0 := rfl

@[simp] theorem discardTable_rev1 (s : State) : (discardTable s).rev1 = s.rev1 := rfl

@[simp] theorem discardTable_turns (s : State) : (discardTable s).turns = s.turns := rfl

@[simp] theorem discardTable_readData (s : State) : (discardTable s).readData = s.readData := rfl

@[simp] theorem discardTable_hostQueue (s : State) : (discardTable s).hostQueue = s.hostQueue := rfl

@[simp] theorem discardTable_moveTable (s : State) : (discardTable s).moveTable = [] := rfl

/-! ### The reset input -/

@[simp] theorem resetBlock_ax0 (s : State) : (resetBlock s).ax0 = State.reset.ax0 := rfl

@[simp] theorem resetBlock_ax1 (s : State) : (resetBlock s).ax1 = State.reset.ax1 := rfl

@[simp] theorem resetBlock_spinPeriod (s : State) : (resetBlock s).spinPeriod = State.reset.spinPeriod := rfl

@[simp] theorem resetBlock_commit (s : State) : (resetBlock s).commit = State.reset.commit := rfl

@[simp] theorem resetBlock_cen (s : State) : (resetBlock s).cen = State.reset.cen := rfl

@[simp] theorem resetBlock_uie (s : State) : (resetBlock s).uie = State.reset.uie := rfl

@[simp] theorem resetBlock_uif (s : State) : (resetBlock s).uif = State.reset.uif := rfl

@[simp] theorem resetBlock_timPeriod (s : State) : (resetBlock s).timPeriod = State.reset.timPeriod := rfl

@[simp] theorem resetBlock_cnt (s : State) : (resetBlock s).cnt = State.reset.cnt := rfl

@[simp] theorem resetBlock_rev0 (s : State) : (resetBlock s).rev0 = s.rev0 := rfl

@[simp] theorem resetBlock_rev1 (s : State) : (resetBlock s).rev1 = s.rev1 := rfl

@[simp] theorem resetBlock_turns (s : State) : (resetBlock s).turns = s.turns := rfl

@[simp] theorem resetBlock_readData (s : State) : (resetBlock s).readData = s.readData := rfl

@[simp] theorem resetBlock_hostQueue (s : State) : (resetBlock s).hostQueue = s.hostQueue := rfl

@[simp] theorem resetBlock_moveTable (s : State) : (resetBlock s).moveTable = s.moveTable := rfl

end Sys2Proof.Machine
end

