-- ==== Sys2Proof/Laws/Tables.lean ====
section
/-! SUPPORT. The numbers of this hardware's configuration, and where an entry of `WAVE` stands in the listing. -/

namespace Sys2Proof.Machine

@[simp] theorem hardware_phaseMod : hardware.phaseMod = 3600 := rfl
@[simp] theorem hardware_lutLen : hardware.lutLen = 6144 := rfl
@[simp] theorem hardware_dutyMax : hardware.dutyMax = 4000 := rfl
@[simp] theorem hardware_rampLen : hardware.rampLen = 34 := rfl
@[simp] theorem hardware_rampTop : hardware.rampTop = 33 := rfl
@[simp] theorem hardware_cruiseInc : hardware.cruiseInc = 33 := rfl
@[simp] theorem hardware_creepInc : hardware.creepInc = 1 := rfl
@[simp] theorem hardware_bumpWindow : hardware.bumpWindow = 900 := rfl
@[simp] theorem hardware_curOne : hardware.curOne = 100 := rfl
@[simp] theorem hardware_off120 : hardware.off120 = 1200 := rfl
@[simp] theorem hardware_off240 : hardware.off240 = 2400 := rfl
@[simp] theorem hardware_timDiv : hardware.timDiv = 4000 := rfl
@[simp] theorem hardware_fTick : hardware.fTick = 18000 := rfl
@[simp] theorem hardware_ramp (i : Nat) : hardware.ramp i = i := rfl
@[simp] theorem hardware_wave (i : Nat) : hardware.wave i = waveEntry i := rfl

/-- The reset value of `TIM_PERIOD` is the divider of 00 R6. -/
theorem reset_timPeriod : State.reset.timPeriod.toNat = hardware.timDiv := rfl

/-- Every row of the listing holds values of at most 4000, so every entry does. -/
theorem waveRows_bounded : ∀ row ∈ waveRows, ∀ v ∈ row, v ≤ 4000 := by decide

theorem waveListed_le (i : Nat) : waveListed i ≤ 4000 := by
  unfold waveListed
  rw [List.getD_eq_getElem?_getD, List.getD_eq_getElem?_getD]
  cases hr : waveRows[i / 20]? with
  | none => simp
  | some row =>
    cases hv : row[i % 20]? with
    | none => simp [hv]
    | some v =>
      simp only [Option.getD_some, hv]
      exact waveRows_bounded row (List.mem_of_getElem? hr) v (List.mem_of_getElem? hv)

/-- No entry of `WAVE` is above `DUTY_MAX` (20 R75, W1). -/
theorem waveEntry_le (i : Nat) : waveEntry i ≤ 4000 := by
  unfold waveEntry; split <;> exact waveListed_le _

end Sys2Proof.Machine
end

