-- ==== Sys2Proof/Laws/Ops.lean ====
section
/-! SUPPORT. One lemma for each shared operation, saying once all it can do. -/

namespace Sys2Proof.Machine

/-! ### Phase, duty, flags -/

theorem advance_phase_toNat (c : Config) (d : Int) (a : AxisState) (h0 : 0 < c.phaseMod) (h : c.phaseMod ≤ 4096) :
    ((advance c d a).phaseAngle.toNat : Int) = ((a.phaseAngle.toNat : Int) + d) % (c.phaseMod : Int) := by
  have h1 : 0 ≤ ((a.phaseAngle.toNat : Int) + d) % (c.phaseMod : Int) := Int.emod_nonneg _ (by omega)
  have h2 : ((a.phaseAngle.toNat : Int) + d) % (c.phaseMod : Int) < c.phaseMod := Int.emod_lt_of_pos _ (by omega)
  simp only [advance_phaseAngle, BitVec.toNat_ofNat]
  omega

theorem advance_phase_lt (c : Config) (d : Int) (a : AxisState) (h0 : 0 < c.phaseMod) (h : c.phaseMod ≤ 4096) :
    (advance c d a).phaseAngle.toNat < c.phaseMod := by
  have h1 := advance_phase_toNat c d a h0 h
  have h2 : ((a.phaseAngle.toNat : Int) + d) % (c.phaseMod : Int) < c.phaseMod := Int.emod_lt_of_pos _ (by omega)
  omega

/-- The phase of this hardware after `Advance`. -/
theorem advance_hardware (d : Int) (a : AxisState) :
    ((advance hardware d a).phaseAngle.toNat : Int) = ((a.phaseAngle.toNat : Int) + d) % 3600 :=
  advance_phase_toNat hardware d a (by decide) (by decide)

theorem duty_toNat (c : Config) (cur : BitVec 7) (i : Nat) (h : cur.toNat * c.wave i / c.curOne < 65536) :
    (duty c cur i).toNat = cur.toNat * c.wave i / c.curOne := by
  simp only [duty, BitVec.toNat_ofNat]
  exact Nat.mod_eq_of_lt h

/-- A duty of this hardware is never truncated by its 16-bit register. -/
theorem duty_hardware (cur : BitVec 7) (i : Nat) :
    (duty hardware cur i).toNat = cur.toNat * waveEntry i / 100 := by
  refine duty_toNat hardware cur i ?_
  have h1 : cur.toNat < 128 := cur.isLt
  have h2 := waveEntry_le i
  have h3 : cur.toNat * waveEntry i ≤ 127 * 4000 := Nat.mul_le_mul (by omega) h2
  simp only [hardware_wave, hardware_curOne]
  omega

/-- A current of at most 1.0 and a table value of at most the largest duty make a duty of at most the largest. -/
theorem duty_le (c : Config) (cur : BitVec 7) (i : Nat) (h1 : cur.toNat ≤ c.curOne) (h2 : c.wave i ≤ c.dutyMax)
    (h3 : 0 < c.curOne) (h4 : c.dutyMax < 65536) : (duty c cur i).toNat ≤ c.dutyMax := by
  have h : cur.toNat * c.wave i / c.curOne ≤ c.dutyMax := by
    calc cur.toNat * c.wave i / c.curOne ≤ c.curOne * c.dutyMax / c.curOne :=
          Nat.div_le_div_right (Nat.mul_le_mul h1 h2)
      _ = c.dutyMax := Nat.mul_div_cancel_left _ h3
  rw [duty_toNat c cur i (by omega)]
  exact h

theorem clearStageBit_getLsbD (w : StageWord) (b j : Nat) (hb : b < 8) :
    (clearStageBit w b).getLsbD j = (w.getLsbD j && !decide (j = b)) := by
  unfold clearStageBit
  by_cases hj : j < 8
  · simp only [BitVec.getLsbD_and, BitVec.getLsbD_not, BitVec.getLsbD_shiftLeft]
    interval_cases b <;> interval_cases j <;> simp
  · rw [BitVec.getLsbD_of_ge _ _ (by omega), BitVec.getLsbD_of_ge _ _ (by omega)]; rfl

/-! ### `Complete` -/

/-- All `Complete` can do: clear the bit, and drop to `CUR_DROP` exactly when no bit is left. -/
theorem complete_cases (c : Config) (rev : Bool) (b : Nat) (a : AxisState) :
    (clearStageBit a.motionFlags b = 0#8 ∧
      complete c rev b a = writeDuty c rev a.curDrop { a with motionFlags := clearStageBit a.motionFlags b }) ∨
    (clearStageBit a.motionFlags b ≠ 0#8 ∧
      complete c rev b a = { a with motionFlags := clearStageBit a.motionFlags b }) := by
  unfold complete
  split
  · exact .inl ⟨by assumption, rfl⟩
  · exact .inr ⟨by assumption, rfl⟩

/-! ### `SpinCount` -/

theorem pointerUp_toNat (c : Config) (p : BitVec 6) (h : c.rampTop < 64) :
    (pointerUp c p).toNat = if p.toNat < c.rampTop then p.toNat + 1 else p.toNat := by
  unfold pointerUp
  split
  · rw [BitVec.toNat_add]
    have := p.isLt
    simp only [BitVec.toNat_ofNat]
    omega
  · rfl

theorem pointerDown_toNat (p : BitVec 6) : (pointerDown p).toNat = p.toNat - 1 := by
  unfold pointerDown
  split
  · rw [BitVec.toNat_sub]
    have := p.isLt
    simp only [BitVec.toNat_ofNat]
    omega
  · omega

/-- All `SpinCount(m, true, b)` can do: count a tick, end a ramp step, or end a ramp step and the stage. -/
theorem spinCountUp_cases (c : Config) (rev : Bool) (sp : BitVec 8) (b : Nat) (a : AxisState) :
    (a.spinSubcount.toNat + 1 < sp.toNat ∧
      spinCountUp c rev sp b a = { a with spinSubcount := a.spinSubcount + 1#8 }) ∨
    (sp.toNat ≤ a.spinSubcount.toNat + 1 ∧ (pointerUp c a.spinPointer).toNat ≠ c.rampTop ∧
      spinCountUp c rev sp b a = { a with spinSubcount := 0#8, spinPointer := pointerUp c a.spinPointer }) ∨
    (sp.toNat ≤ a.spinSubcount.toNat + 1 ∧ (pointerUp c a.spinPointer).toNat = c.rampTop ∧
      spinCountUp c rev sp b a =
        complete c rev b { a with spinSubcount := 0#8, spinPointer := pointerUp c a.spinPointer }) := by
  unfold spinCountUp rampStepDue
  by_cases h : sp.toNat ≤ a.spinSubcount.toNat + 1
  · by_cases hp : (pointerUp c a.spinPointer).toNat = c.rampTop
    · exact .inr (.inr ⟨h, hp, by simp [h, hp]⟩)
    · exact .inr (.inl ⟨h, hp, by simp [h, hp]⟩)
  · exact .inl ⟨by omega, by simp [h]⟩

/-- All `SpinCount(m, false, b)` can do. -/
theorem spinCountDown_cases (c : Config) (rev : Bool) (sp : BitVec 8) (b : Nat) (a : AxisState) :
    (a.spinSubcount.toNat + 1 < sp.toNat ∧
      spinCountDown c rev sp b a = { a with spinSubcount := a.spinSubcount + 1#8 }) ∨
    (sp.toNat ≤ a.spinSubcount.toNat + 1 ∧ pointerDown a.spinPointer ≠ 0#6 ∧
      spinCountDown c rev sp b a = { a with spinSubcount := 0#8, spinPointer := pointerDown a.spinPointer }) ∨
    (sp.toNat ≤ a.spinSubcount.toNat + 1 ∧ pointerDown a.spinPointer = 0#6 ∧
      spinCountDown c rev sp b a =
        complete c rev b { a with spinSubcount := 0#8, spinPointer := pointerDown a.spinPointer }) := by
  unfold spinCountDown rampStepDue
  by_cases h : sp.toNat ≤ a.spinSubcount.toNat + 1
  · by_cases hp : pointerDown a.spinPointer = 0#6
    · exact .inr (.inr ⟨h, hp, by simp [h, hp]⟩)
    · exact .inr (.inl ⟨h, hp, by simp [h, hp]⟩)
  · exact .inl ⟨by omega, by simp [h]⟩

/-! ### Cruise and creep -/

/-- All a cruise tick can do: end an empty stage, move, or move and end the stage. -/
theorem cruiseTick_cases (c : Config) (rev : Bool) (sgn : Int) (b : Nat) (a : AxisState) :
    (a.cruiseSteps = 0#32 ∧ cruiseTick c rev sgn b a = complete c rev b a) ∨
    (a.cruiseSteps ≠ 0#32 ∧ a.cruiseSteps - 1#32 ≠ 0#32 ∧ cruiseTick c rev sgn b a =
      { writeDuty c rev a.curCruise (advance c (sgn * (c.cruiseInc : Int)) a) with
        cruiseSteps := a.cruiseSteps - 1#32 }) ∨
    (a.cruiseSteps ≠ 0#32 ∧ a.cruiseSteps - 1#32 = 0#32 ∧ cruiseTick c rev sgn b a =
      complete c rev b { writeDuty c rev a.curCruise (advance c (sgn * (c.cruiseInc : Int)) a) with
        cruiseSteps := a.cruiseSteps - 1#32 }) := by
  unfold cruiseTick cruiseCount
  by_cases h : a.cruiseSteps = 0#32
  · exact .inl ⟨h, by simp [h]⟩
  · by_cases h1 : a.cruiseSteps - 1#32 = 0#32
    · exact .inr (.inr ⟨h, h1, by simp [h, h1]⟩)
    · exact .inr (.inl ⟨h, h1, by simp [h, h1]⟩)

/-- All a CW creep tick can do: end an empty stage, wait, step, or step and end the stage. -/
theorem cwCreep_cases (c : Config) (rev : Bool) (a : AxisState) :
    (a.cwCreepSteps = 0#32 ∧ cwCreep c rev a = complete c rev 0 a) ∨
    (a.cwCreepSteps ≠ 0#32 ∧ a.creepSubcount.toNat + 1 < a.creepPeriod.toNat ∧
      cwCreep c rev a =
        writeDuty c rev (bumpCwCreep c a).cwCreepCurOp { bumpCwCreep c a with creepSubcount := a.creepSubcount + 1#8 }) ∨
    (a.cwCreepSteps ≠ 0#32 ∧ a.creepPeriod.toNat ≤ a.creepSubcount.toNat + 1 ∧
      cwCreep c rev a = cwCreepCount c rev (writeDuty c rev (bumpCwCreep c a).cwCreepCurOp
        (advance c (c.creepInc : Int) { bumpCwCreep c a with creepSubcount := 0#8 }))) := by
  unfold cwCreep cwCreepActive countCreepTick creepStepDue
  by_cases h : a.cwCreepSteps = 0#32
  · exact .inl ⟨h, by simp [h]⟩
  · by_cases hd : a.creepPeriod.toNat ≤ a.creepSubcount.toNat + 1
    · exact .inr (.inr ⟨h, hd, by simp [h, hd]⟩)
    · exact .inr (.inl ⟨h, by omega, by simp [h, hd]⟩)

/-- All a CCW creep tick can do. -/
theorem ccwCreep_cases (c : Config) (rev : Bool) (a : AxisState) :
    (a.ccwCreepSteps = 0#32 ∧ ccwCreep c rev a = complete c rev 1 a) ∨
    (a.ccwCreepSteps ≠ 0#32 ∧ a.creepSubcount.toNat + 1 < a.creepPeriod.toNat ∧
      ccwCreep c rev a =
        writeDuty c rev (bumpCcwCreep c a).ccwCreepCurOp
          { bumpCcwCreep c a with creepSubcount := a.creepSubcount + 1#8 }) ∨
    (a.ccwCreepSteps ≠ 0#32 ∧ a.creepPeriod.toNat ≤ a.creepSubcount.toNat + 1 ∧
      ccwCreep c rev a = ccwCreepCount c rev (writeDuty c rev (bumpCcwCreep c a).ccwCreepCurOp
        (advance c (-(c.creepInc : Int)) { bumpCcwCreep c a with creepSubcount := 0#8 }))) := by
  unfold ccwCreep ccwCreepActive countCreepTick creepStepDue
  by_cases h : a.ccwCreepSteps = 0#32
  · exact .inl ⟨h, by simp [h]⟩
  · by_cases hd : a.creepPeriod.toNat ≤ a.creepSubcount.toNat + 1
    · exact .inr (.inr ⟨h, hd, by simp [h, hd]⟩)
    · exact .inr (.inl ⟨h, by omega, by simp [h, hd]⟩)

/-! ### The handler and the timer -/

@[simp] theorem tickAxis_axis_self (m : Axis) (s : State) :
    (tickAxis m s).axis m = axisTick hardware (s.rev m) s.spinPeriod (s.axis m) := by
  simp [tickAxis]

/-- `TICK` axis by axis: each axis' result depends on its own state alone. -/
theorem tickHandler_axis (s : State) (m : Axis) :
    (tickHandler s).axis m =
      if commitBit m s.commit then handoff (axisTick hardware (s.rev m) s.spinPeriod (s.axis m))
      else axisTick hardware (s.rev m) s.spinPeriod (s.axis m) := by
  unfold tickHandler endTickInterrupt commitHandoff handoffAxis tickAxis takeTickInterrupt
  cases m <;> by_cases h0 : commitBit .zero s.commit = true <;> by_cases h1 : commitBit .one s.commit = true <;>
    simp [h0, h1]

/-- `TICK` outside the axes: it clears `UIF` and `COMMIT` and leaves every other field. -/
theorem tickHandler_frame (s : State) :
    tickHandler s = { s with
      ax0 := (tickHandler s).ax0, ax1 := (tickHandler s).ax1, uif := false, commit := 0#2 } := by
  unfold tickHandler endTickInterrupt commitHandoff handoffAxis tickAxis takeTickInterrupt
  by_cases h0 : commitBit .zero s.commit = true <;> by_cases h1 : commitBit .one s.commit = true <;> simp [h0, h1]

/-- All a timer clock can do: hold, count, or end the period with an update event. -/
theorem timerClock_cases (s : State) :
    (s.cen = false ∧ timerClock s = s) ∨
    (s.cen = true ∧ s.cnt.toNat + 1 < s.timPeriod.toNat ∧ timerClock s = { s with cnt := s.cnt + 1#16 }) ∨
    (s.cen = true ∧ s.timPeriod.toNat ≤ s.cnt.toNat + 1 ∧ timerClock s = { s with cnt := 0#16, uif := true }) := by
  unfold timerClock periodEnds updateEvent
  cases hc : s.cen
  · exact .inl ⟨rfl, by simp⟩
  · by_cases h : s.timPeriod.toNat ≤ s.cnt.toNat + 1
    · exact .inr (.inr ⟨rfl, h, by simp [h]⟩)
    · exact .inr (.inl ⟨rfl, by omega, by simp [h]⟩)

end Sys2Proof.Machine
end

