-- ==== Sys2Proof/Laws/PerInstr.lean ====
section
/-! SUPPORT. One lemma per instruction: its code is of the format, and meets the match and mask, of its row of
`spec/opcode_table.json`. -/

namespace Sys2Proof.Laws

/-- Who decodes a word (30 R100; 43 R211). -/
inductive Format where
  | stage
  | evt
  | host
  | can
deriving DecidableEq, Repr

/-- A row of the opcode table: format, match and mask. Every HOST row's match and mask are 0 in the 32 data bits, so the row
holds the byte above them: `W` and the address. -/
structure Row where
  format : Format
  pattern : BitVec 8
  mask : BitVec 8
deriving DecidableEq, Repr

/-- The row of an instruction. -/
def row : Instr → Row
  | .cwSpinup _ => ⟨.stage, 0x80#8, 0x80#8⟩
  | .cwCruise _ => ⟨.stage, 0x40#8, 0xC0#8⟩
  | .cwSpindown _ => ⟨.stage, 0x20#8, 0xE0#8⟩
  | .ccwSpinup _ => ⟨.stage, 0x10#8, 0xF0#8⟩
  | .ccwCruise _ => ⟨.stage, 0x08#8, 0xF8#8⟩
  | .ccwSpindown _ => ⟨.stage, 0x04#8, 0xFC#8⟩
  | .ccwCreep _ => ⟨.stage, 0x02#8, 0xFE#8⟩
  | .cwCreep _ => ⟨.stage, 0x01#8, 0xFF#8⟩
  | .idle _ => ⟨.stage, 0x00#8, 0xFF#8⟩
  | .tick => ⟨.evt, 0x03#8, 0x03#8⟩
  | .rd _ => ⟨.host, 0x00#8, 0x80#8⟩
  | .wrTimCtrl _ => ⟨.host, 0x80#8, 0xFF#8⟩
  | .wrTimPeriod _ => ⟨.host, 0x81#8, 0xFF#8⟩
  | .wrCommit _ => ⟨.host, 0x83#8, 0xFF#8⟩
  | .wrSpinPeriod _ => ⟨.host, 0x84#8, 0xFF#8⟩
  | .wrShadowFlags _ _ => ⟨.host, 0xC0#8, 0xDF#8⟩
  | .wrCruiseSteps _ _ => ⟨.host, 0xC5#8, 0xDF#8⟩
  | .wrCwCreepSteps _ _ => ⟨.host, 0xC6#8, 0xDF#8⟩
  | .wrCcwCreepSteps _ _ => ⟨.host, 0xC7#8, 0xDF#8⟩
  | .wrCurSpinup _ _ => ⟨.host, 0xC8#8, 0xDF#8⟩
  | .wrCurCruise _ _ => ⟨.host, 0xC9#8, 0xDF#8⟩
  | .wrCurSpindown _ _ => ⟨.host, 0xCA#8, 0xDF#8⟩
  | .wrCurCreep _ _ => ⟨.host, 0xCB#8, 0xDF#8⟩
  | .wrCurDrop _ _ => ⟨.host, 0xCC#8, 0xDF#8⟩
  | .wrCreepPeriod _ _ => ⟨.host, 0xCD#8, 0xDF#8⟩
  | .wrBump _ _ => ⟨.host, 0xCE#8, 0xDF#8⟩
  | .wrIgnored _ _ => ⟨.host, 0x80#8, 0x80#8⟩
  | .cmd2SetCurrents .. => ⟨.can, 0x02#8, 0xFF#8⟩
  | .cmd3SetPeriods .. => ⟨.can, 0x03#8, 0xFF#8⟩
  | .cmd4QueueMove .. => ⟨.can, 0x04#8, 0xFF#8⟩
  | .cmd7Execute => ⟨.can, 0x07#8, 0xFF#8⟩

/-- The format of a code. -/
def codeFormat : Code → Format
  | .stage _ _ => .stage
  | .evt _ => .evt
  | .host _ => .host
  | .can _ => .can

/-- The byte of a code that its row's match and mask look at. -/
def codeByte : Code → BitVec 8
  | .stage _ w => w
  | .evt w => w.setWidth 8
  | .host w => w.extractLsb' 32 8
  | .can f => f.id

theorem codeByte_writeWord (addr : HostAddr) (d : Data) : codeByte (.host (writeWord addr d)) = 1#1 ++ addr := by
  apply BitVec.eq_of_toNat_eq
  have h : (1#1 ++ addr : BitVec 8).toNat = 128 + addr.toNat := by
    rw [BitVec.toNat_append, ← Nat.shiftLeft_add_eq_or_of_lt addr.isLt]; rfl
  have := addr.isLt; have := d.isLt
  rw [h, codeByte, BitVec.extractLsb'_toNat, writeWord_toNat, Nat.shiftRight_eq_div_pow]
  omega

theorem codeByte_readWord (addr : HostAddr) : codeByte (.host (readWord addr)) = 0#1 ++ addr := by
  apply BitVec.eq_of_toNat_eq
  have h : (0#1 ++ addr : BitVec 8).toNat = addr.toNat := by
    rw [BitVec.toNat_append, ← Nat.shiftLeft_add_eq_or_of_lt addr.isLt]; simp
  have := addr.isLt
  rw [h, codeByte, BitVec.extractLsb'_toNat, readWord_toNat, Nat.shiftRight_eq_div_pow]
  omega

/-- The match and mask of a HOST write look at `W` and the address alone. -/
theorem writeWord_matches (addr : HostAddr) (mask pattern : BitVec 8) (d : Data)
    (h : (1#1 ++ addr : BitVec 8) &&& mask = pattern) : codeByte (.host (writeWord addr d)) &&& mask = pattern := by
  rw [codeByte_writeWord]; exact h

/-- Every address has `W` above it. -/
theorem writeByte_top : ∀ addr : HostAddr, (1#1 ++ addr : BitVec 8) &&& 0x80#8 = 0x80#8 := by decide

/-- A read has `W = 0` above it. -/
theorem readByte_top : ∀ addr : HostAddr, (0#1 ++ addr : BitVec 8) &&& 0x80#8 = 0x00#8 := by decide

/-- The code of an instruction is of its row's format and meets its row's match and mask. -/
def EncodingMatchesRow.Statement (i : Instr) : Prop :=
  codeFormat (encode i) = (row i).format ∧ codeByte (encode i) &&& (row i).mask = (row i).pattern

namespace EncodingMatchesRow

theorem cwSpinup (m : Axis) : Statement (.cwSpinup m) := ⟨rfl, by cases m <;> decide⟩

theorem cwCruise (m : Axis) : Statement (.cwCruise m) := ⟨rfl, by cases m <;> decide⟩

theorem cwSpindown (m : Axis) : Statement (.cwSpindown m) := ⟨rfl, by cases m <;> decide⟩

theorem ccwSpinup (m : Axis) : Statement (.ccwSpinup m) := ⟨rfl, by cases m <;> decide⟩

theorem ccwCruise (m : Axis) : Statement (.ccwCruise m) := ⟨rfl, by cases m <;> decide⟩

theorem ccwSpindown (m : Axis) : Statement (.ccwSpindown m) := ⟨rfl, by cases m <;> decide⟩

theorem ccwCreep (m : Axis) : Statement (.ccwCreep m) := ⟨rfl, by cases m <;> decide⟩

theorem cwCreep (m : Axis) : Statement (.cwCreep m) := ⟨rfl, by cases m <;> decide⟩

theorem idle (m : Axis) : Statement (.idle m) := ⟨rfl, by cases m <;> decide⟩

theorem tick : Statement .tick := ⟨rfl, by decide⟩

theorem rd (addr : HostAddr) : Statement (.rd addr) :=
  ⟨rfl, (congrArg (· &&& 0x80#8) (codeByte_readWord addr)).trans (readByte_top addr)⟩

theorem wrTimCtrl (data : Data) : Statement (.wrTimCtrl data) :=
  ⟨rfl, writeWord_matches _ 0xFF#8 0x80#8 data (by decide)⟩

theorem wrTimPeriod (data : Data) : Statement (.wrTimPeriod data) :=
  ⟨rfl, writeWord_matches _ 0xFF#8 0x81#8 data (by decide)⟩

theorem wrCommit (data : Data) : Statement (.wrCommit data) :=
  ⟨rfl, writeWord_matches _ 0xFF#8 0x83#8 data (by decide)⟩

theorem wrSpinPeriod (data : Data) : Statement (.wrSpinPeriod data) :=
  ⟨rfl, writeWord_matches _ 0xFF#8 0x84#8 data (by decide)⟩

theorem wrShadowFlags (m : Axis) (data : Data) : Statement (.wrShadowFlags m data) :=
  ⟨rfl, writeWord_matches _ 0xDF#8 0xC0#8 data (by cases m <;> decide)⟩

theorem wrCruiseSteps (m : Axis) (data : Data) : Statement (.wrCruiseSteps m data) :=
  ⟨rfl, writeWord_matches _ 0xDF#8 0xC5#8 data (by cases m <;> decide)⟩

theorem wrCwCreepSteps (m : Axis) (data : Data) : Statement (.wrCwCreepSteps m data) :=
  ⟨rfl, writeWord_matches _ 0xDF#8 0xC6#8 data (by cases m <;> decide)⟩

theorem wrCcwCreepSteps (m : Axis) (data : Data) : Statement (.wrCcwCreepSteps m data) :=
  ⟨rfl, writeWord_matches _ 0xDF#8 0xC7#8 data (by cases m <;> decide)⟩

theorem wrCurSpinup (m : Axis) (data : Data) : Statement (.wrCurSpinup m data) :=
  ⟨rfl, writeWord_matches _ 0xDF#8 0xC8#8 data (by cases m <;> decide)⟩

theorem wrCurCruise (m : Axis) (data : Data) : Statement (.wrCurCruise m data) :=
  ⟨rfl, writeWord_matches _ 0xDF#8 0xC9#8 data (by cases m <;> decide)⟩

theorem wrCurSpindown (m : Axis) (data : Data) : Statement (.wrCurSpindown m data) :=
  ⟨rfl, writeWord_matches _ 0xDF#8 0xCA#8 data (by cases m <;> decide)⟩

theorem wrCurCreep (m : Axis) (data : Data) : Statement (.wrCurCreep m data) :=
  ⟨rfl, writeWord_matches _ 0xDF#8 0xCB#8 data (by cases m <;> decide)⟩

theorem wrCurDrop (m : Axis) (data : Data) : Statement (.wrCurDrop m data) :=
  ⟨rfl, writeWord_matches _ 0xDF#8 0xCC#8 data (by cases m <;> decide)⟩

theorem wrCreepPeriod (m : Axis) (data : Data) : Statement (.wrCreepPeriod m data) :=
  ⟨rfl, writeWord_matches _ 0xDF#8 0xCD#8 data (by cases m <;> decide)⟩

theorem wrBump (m : Axis) (data : Data) : Statement (.wrBump m data) :=
  ⟨rfl, writeWord_matches _ 0xDF#8 0xCE#8 data (by cases m <;> decide)⟩

theorem wrIgnored (addr : HostAddr) (data : Data) : Statement (.wrIgnored addr data) :=
  ⟨rfl, writeWord_matches addr 0x80#8 0x80#8 data (writeByte_top addr)⟩

theorem cmd2SetCurrents (b0 b1 b2 b3 b4 b5 b6 b7 : Byte) : Statement (.cmd2SetCurrents b0 b1 b2 b3 b4 b5 b6 b7) :=
  ⟨rfl, (by decide : 0x02#8 &&& 0xFF#8 = 0x02#8)⟩

theorem cmd3SetPeriods (creep0 creep1 spin : Byte) : Statement (.cmd3SetPeriods creep0 creep1 spin) :=
  ⟨rfl, (by decide : 0x03#8 &&& 0xFF#8 = 0x03#8)⟩

theorem cmd4QueueMove (select c1 c2 c3 p4 p5 : Byte) : Statement (.cmd4QueueMove select c1 c2 c3 p4 p5) :=
  ⟨rfl, (by decide : 0x04#8 &&& 0xFF#8 = 0x04#8)⟩

theorem cmd7Execute : Statement .cmd7Execute := ⟨rfl, by decide⟩

end EncodingMatchesRow

end Sys2Proof.Laws
end

