-- ==== Sys2Proof/Laws/Port.lean ====
section
/-! SUPPORT. What a read of the port gives bank by bank, what the data field becomes, and which state a change leaves
unread. -/

namespace Sys2Proof.Machine

/-! ### The data field (30 R110) -/

theorem lowBits_toNat (n : Nat) (d : Data) : (lowBits n d).toNat = d.toNat % 2 ^ n := by simp [lowBits]

theorem clampCurrent_toNat (d : Data) : (clampCurrent d).toNat = min (d.toNat % 256) 100 := by
  simp only [clampCurrent, BitVec.toNat_ofNat, lowBits_toNat, hardware_curOne]
  omega

theorem zext32_toNat {n : Nat} (v : BitVec n) (h : n ≤ 32) : (zext32 v).toNat = v.toNat := by
  simp only [zext32, BitVec.toNat_setWidth]
  exact Nat.mod_eq_of_lt (lt_of_lt_of_le v.isLt (Nat.pow_le_pow_right (by decide) h))

/-- What the port writes of an 8-bit value that a command carries is that value. -/
@[simp] theorem lowBits_zext32 (b : Byte) : lowBits 8 (zext32 b) = b := by
  apply BitVec.eq_of_toNat_eq
  rw [lowBits_toNat, zext32_toNat b (by decide)]
  exact Nat.mod_eq_of_lt b.isLt

/-! ### Reads -/

@[simp] theorem regRead_axisAddr (s : State) (m : Axis) (r : BitVec 5) :
    regRead s (axisAddr m r) = axisRegRead (s.axis m) r := by
  simp [regRead]

@[simp] theorem regRead_globalAddr (s : State) (r : BitVec 6) : regRead s (globalAddr r) = globalRegRead s r := by
  simp [regRead]

/-- A change of one axis in one register is seen at that register's address alone. -/
theorem regRead_setAxis (s : State) (m : Axis) (a : AxisState) (r : BitVec 5)
    (h : ∀ q, q ≠ r → axisRegRead a q = axisRegRead (s.axis m) q) (addr : HostAddr) (hne : addr ≠ axisAddr m r) :
    regRead (s.setAxis m a) addr = regRead s addr := by
  unfold regRead
  split
  · rename_i h6
    by_cases hm : axisOfBit (addr.getLsbD 5) = m
    · rw [hm, State.setAxis_axis_self]
      refine h _ fun hr => hne ?_
      rw [← axisAddr_extract addr h6, hm, hr]
    · rw [State.setAxis_axis_ne _ _ _ _ hm]
  · unfold globalRegRead
    split <;> simp

/-- A change of one global register is seen at that register's address alone. -/
theorem regRead_global (s t : State) (r : BitVec 6) (hax : ∀ m, t.axis m = s.axis m)
    (h : ∀ q, q ≠ r → globalRegRead t q = globalRegRead s q) (addr : HostAddr) (hne : addr ≠ globalAddr r) :
    regRead t addr = regRead s addr := by
  unfold regRead
  split
  · rw [hax]
  · rename_i h6
    refine h _ fun hr => hne ?_
    rw [← globalAddr_extract addr (Bool.eq_false_iff.2 h6), hr]

end Sys2Proof.Machine
end

