-- ==== Sys2Proof/Laws/Turns.lean ====
section
/-! SUPPORT. What the command layer's handlers issue, and all a turn can do. -/

namespace Sys2Proof.Machine

/-! ### What the issued words decode to (43 R212 to R215) -/

theorem decodeHost_creepPeriod (m : Axis) (d : Data) :
    decodeHost (writeWord (axisAddr m 0x0D#5) d) = .wrCreepPeriod m d := by
  simp [decodeHost_writeWord, decodeAxisWrite]

theorem decodeHost_spinPeriod (d : Data) : decodeHost (writeWord (globalAddr 0x04#6) d) = .wrSpinPeriod d := by
  rw [decodeHost_writeWord]; rfl

theorem decodeHost_commit (d : Data) : decodeHost (writeWord (globalAddr 0x03#6) d) = .wrCommit d := by
  rw [decodeHost_writeWord]; rfl

theorem decodeHost_shadowFlags (m : Axis) (d : Data) :
    decodeHost (writeWord (axisAddr m 0x00#5) d) = .wrShadowFlags m d := by
  simp [decodeHost_writeWord, decodeAxisWrite]

/-! ### The handlers -/

/-- A handler only issues accesses. -/
theorem handle_issues (s : State) (c : Command) : ∃ ws, handle s c = issue ws s := by
  cases c with
  | setCurrents => exact ⟨_, rfl⟩
  | setPeriods => exact ⟨_, rfl⟩
  | queueMove select c1 c2 c3 p4 p5 =>
    unfold handle handleQueueMove
    simp only
    split
    · exact ⟨_, rfl⟩
    · exact ⟨[], by simp [issue]⟩
  | execute => exact ⟨[], by simp [handle, issue]⟩

/-- So do the handlers of a whole table. -/
theorem foldl_handle_issues (table : List Command) : ∀ s : State, ∃ ws, table.foldl handle s = issue ws s := by
  induction table with
  | nil => intro s; exact ⟨[], by simp [issue]⟩
  | cons c table ih =>
    intro s
    obtain ⟨ws, h⟩ := handle_issues s c
    obtain ⟨ws', h'⟩ := ih (handle s c)
    exact ⟨ws ++ ws', by rw [List.foldl_cons, h', h]; simp [issue]⟩

/-- All the replay of the move table can do. -/
theorem replayTable_cases (s : State) :
    (s.moveTable = [] ∧ replayTable s = s) ∨
    (s.moveTable ≠ [] ∧ ∃ ws, s.moveTable.foldl handle s = issue ws s ∧
      replayTable s = { s with
        hostQueue := s.hostQueue ++ ws ++ [writeWord (globalAddr 0x03#6) (zext32 (tableMask s.moveTable))]
        moveTable := tableAfterReplay s.moveTable }) := by
  unfold replayTable
  by_cases h : s.moveTable = []
  · exact .inl ⟨h, by simp [h]⟩
  · obtain ⟨ws, e⟩ := foldl_handle_issues s.moveTable s
    exact .inr ⟨h, ws, e, by rw [if_neg h, e]; rfl⟩

theorem tableAfterReplay_cases (table : List Command) :
    tableAfterReplay table = [] ∨ tableAfterReplay table = table := by
  unfold tableAfterReplay; split
  · exact .inr rfl
  · exact .inl rfl

/-! ### The turns -/

/-- Running a stage's instruction replaces its axis and nothing else (41 R150). -/
theorem exec_stageInstr (m : Axis) (st : Stage) (s : State) :
    exec (stageInstr m st) s = .next (s.setAxis m (stageAction hardware (s.rev m) s.spinPeriod st (s.axis m))) := by
  cases st <;> rfl

/-- A code is run, or stands for no instruction and changes nothing. -/
theorem runCode_cases (c : Code) (s : State) :
    (∃ i, decode c = .ok i ∧ runCode c s = exec i s) ∨ (∃ e, decode c = .error e ∧ runCode c s = .next s) := by
  unfold runCode
  split
  · exact .inl ⟨_, by assumption, rfl⟩
  · exact .inr ⟨_, by assumption, rfl⟩

/-- The engine's turn is a tick, or nothing. -/
theorem engineTurn_cases (s : State) :
    (s.uie = true ∧ s.uif = true ∧ engineTurn s = .next (tickHandler s)) ∨
    ((s.uie = false ∨ s.uif = false) ∧ engineTurn s = .next s) := by
  unfold engineTurn
  cases h : s.uie <;> cases h' : s.uif
  · exact .inr ⟨.inl rfl, rfl⟩
  · exact .inr ⟨.inl rfl, rfl⟩
  · exact .inr ⟨.inr rfl, rfl⟩
  · exact .inl ⟨rfl, rfl, rfl⟩

/-- The port's turn serves the first issued access, or nothing. -/
theorem portTurn_cases (s : State) :
    (s.hostQueue = [] ∧ portTurn s = .next s) ∨
    (∃ w ws, s.hostQueue = w :: ws ∧ portTurn s = exec (decodeHost w) { s with hostQueue := ws }) := by
  unfold portTurn
  split
  · exact .inl ⟨by assumption, rfl⟩
  · exact .inr ⟨_, _, by assumption, rfl⟩

/-- The host's turn runs its access when nothing waits, and else the oldest one issued, the new one last (20 R89). -/
theorem hostTurn_cases (w : HostWord) (s : State) :
    (s.hostQueue = [] ∧ hostTurn w s = exec (decodeHost w) s) ∨
    (∃ v vs, s.hostQueue = v :: vs ∧ hostTurn w s = exec (decodeHost v) { s with hostQueue := vs ++ [w] }) := by
  obtain h | ⟨v, vs, h⟩ : s.hostQueue = [] ∨ ∃ v vs, s.hostQueue = v :: vs := by
    cases s.hostQueue with
    | nil => exact .inl rfl
    | cons v vs => exact .inr ⟨v, vs, rfl⟩
  · refine .inl ⟨h, ?_⟩
    cases s
    simp only at h
    subst h
    rfl
  · refine .inr ⟨v, vs, h, ?_⟩
    cases s
    simp only at h
    subst h
    rfl

/-- An instruction of a HOST word reads and writes neither the accesses issued nor the turns to come. -/
theorem exec_decodeHost_queue (w : HostWord) (s : State) (ws : List HostWord) (ts : List Turn) :
    ∃ t, exec (decodeHost w) s = .next t ∧ t.hostQueue = s.hostQueue ∧ t.turns = s.turns ∧ t.moveTable = s.moveTable ∧
      exec (decodeHost w) { s with hostQueue := ws, turns := ts } = .next { t with hostQueue := ws, turns := ts } := by
  have setAxis_queue (m : Axis) (a : AxisState) :
      State.setAxis { s with hostQueue := ws, turns := ts } m a =
        { s.setAxis m a with hostQueue := ws, turns := ts } := by cases m <;> rfl
  have axis_queue (m : Axis) : State.axis { s with hostQueue := ws, turns := ts } m = s.axis m := by cases m <;> rfl
  unfold decodeHost
  split
  · split
    · unfold decodeAxisWrite
      split <;> refine ⟨_, rfl, by simp, by simp, by simp, ?_⟩ <;>
        simp only [exec, execWrShadowFlags, execWrCruiseSteps, execWrCwCreepSteps, execWrCcwCreepSteps, execWrCurSpinup,
          execWrCurCruise, execWrCurSpindown, execWrCurCreep, execWrCurDrop, execWrCreepPeriod, execWrBump, execWrIgnored,
          setAxis_queue, axis_queue]
    · unfold decodeGlobalWrite
      split <;> exact ⟨_, rfl, rfl, rfl, rfl, rfl⟩
  · refine ⟨_, rfl, rfl, rfl, rfl, ?_⟩
    simp only [exec, execRd, regRead, axis_queue]
    rfl

theorem shadow_addr (a : HostAddr) (m : Axis) :
    a = axisAddr m 0x00#5 ↔ a.getLsbD 6 = true ∧ (a.extractLsb' 0 5).toNat = 0 ∧ axisOfBit (a.getLsbD 5) = m := by
  cases m <;> revert a <;> decide

/-- What a HOST word's instruction makes of a shadow word: only the write of that register changes it (42 R186). -/
theorem exec_decodeHost_shadow (w : HostWord) (s t : State) (m : Axis) (h : exec (decodeHost w) s = .next t) :
    (t.axis m).shadowFlags = shadowAfter m (s.axis m).shadowFlags w := by
  unfold shadowAfter
  unfold decodeHost at h
  by_cases hw : hostWrite w = true
  · rw [if_pos hw] at h
    by_cases h6 : (hostAddr w).getLsbD 6 = true
    · rw [if_pos h6] at h
      simp only [shadow_addr, h6, hw, true_and]
      generalize hostAddr w = a at *
      unfold decodeAxisWrite at h
      split at h <;> rename_i e <;> cases h
      case h_12 => rw [if_neg (fun c => by simp_all)]
      all_goals
        by_cases hm : axisOfBit (a.getLsbD 5) = m
        · subst hm; simp [e]
        · rw [if_neg (fun c => hm c.2), State.setAxis_axis_ne _ _ _ _ (Ne.symm hm)]
    · rw [if_neg h6] at h
      rw [if_neg (fun c => h6 ((shadow_addr _ _).mp c.2).1)]
      unfold decodeGlobalWrite at h
      split at h <;> cases h <;> cases m <;> rfl
  · rw [if_neg hw] at h
    cases h
    rw [if_neg (fun c => hw c.1)]
    cases m <;> rfl
/-- A frame that triggers the table is no command, the trigger itself, or the table's last command (43 R215). -/
theorem dispatchFrame_cases (f : CanFrame) (s : State) :
    (∃ e, decodeCommand f = .error e ∧ dispatchFrame f s = .next s) ∨
    (decodeCommand f = .ok .execute ∧ dispatchFrame f s = exec .cmd7Execute s) ∨
    (∃ c, c ≠ .execute ∧ decodeCommand f = .ok c ∧
      dispatchFrame f s = exec .cmd7Execute { s with moveTable := s.moveTable ++ [c] }) := by
  unfold dispatchFrame
  split
  · rename_i e h
    exact .inl ⟨e, h, rfl⟩
  · rename_i h
    exact .inr (.inl ⟨h, by simp [runCode, decode, h, Except.map, commandInstr]⟩)
  · rename_i c hne h
    exact .inr (.inr ⟨c, hne, h, rfl⟩)

/-- A received frame is no command, a trigger, or a command that is buffered. -/
theorem receiveFrame_cases (f : CanFrame) (s : State) :
    (∃ e, decodeCommand f = .error e ∧ receiveFrame f s = .next s) ∨
    (decodeCommand f = .ok .execute ∧ receiveFrame f s = exec .cmd7Execute s) ∨
    (∃ c, c ≠ .execute ∧ decodeCommand f = .ok c ∧
      receiveFrame f s = .next { s with moveTable := s.moveTable ++ [c] }) := by
  unfold receiveFrame
  split
  · rename_i e h
    exact .inl ⟨e, h, rfl⟩
  · rename_i h
    exact .inr (.inl ⟨h, by simp [runCode, decode, h, Except.map, commandInstr]⟩)
  · rename_i c hne h
    exact .inr (.inr ⟨c, hne, h, rfl⟩)

/-- A step is the next turn, run without it in the list. -/
theorem step_turn (s : State) (t : Turn) (rest : List Turn) (h : s.turns = t :: rest) :
    step s = runTurn t { s with turns := rest } := by
  simp [step, takeTurn, h]

/-- A step with no turn scheduled is the default one. -/
theorem step_default (s : State) (h : s.turns = []) : step s = runTurn (defaultTurn s) s := by
  simp [step, takeTurn, h]

end Sys2Proof.Machine
end

