-- ==== Sys2Proof/Tests/Slice0.lean ====
section
/-! SUPPORT. Tests: the checks of `WellFormed`, words written out from the spec's encodings, one step of each instruction on
the values the spec prints, and, for each claim with premises, a state that meets them. Expected values are the spec's: the
examples of its rules and the rows of 95_test_vectors.md. -/

namespace Sys2Proof.Tests

open Sys2Proof.Machine Sys2Proof.Claim

/-- A test of the state an outcome goes to. -/
def holdsAfter (o : Host.Outcome State Fault Refusal) (p : State → Bool) : Bool :=
  match o with
  | .next t => p t
  | .fault _ => false
  | .refused _ => false

/-- What the decoder makes of a code. -/
def reads (c : Code) (i : Instr) : Bool := (decode c).toOption == some i

/-- What the decoder rejects a code with. -/
def rejects (c : Code) (e : DecodeError) : Bool :=
  match decode c with
  | .ok _ => false
  | .error e' => e' == e

/-- The reset state with `ax[0]` replaced and a ramp period. -/
def onAxis0 (spinPeriod : BitVec 8) (a : AxisState) : State := { State.reset with ax0 := a, spinPeriod := spinPeriod }

/-- The compare registers of an axis, in numbers. -/
def duties (a : AxisState) : Nat × Nat × Nat := (a.pwmCcr0.toNat, a.pwmCcr1.toNat, a.pwmCcr2.toNat)

/-- The axis state the stage rows of 95 start from: everything 0 but what is given. -/
def zeroAxis : AxisState := AxisState.reset

/-! ### WellFormed: the one check refuses what a write row has, and accepts the rest (42 R197) -/

theorem test_wf_refuses_global : (Instr.wrIgnored 0x03#7 1#32).wellFormed = false := by decide

theorem test_wf_refuses_global_last : (Instr.wrIgnored 0x04#7 1#32).wellFormed = false := by decide

theorem test_wf_refuses_axis : (Instr.wrIgnored 0x45#7 1#32).wellFormed = false := by decide

theorem test_wf_refuses_axis_last : (Instr.wrIgnored 0x6E#7 1#32).wellFormed = false := by decide

theorem test_wf_accepts_read_only : (Instr.wrIgnored 0x02#7 1#32).wellFormed = true := by decide

theorem test_wf_accepts_engine_owned : (Instr.wrIgnored 0x41#7 1#32).wellFormed = true := by decide

theorem test_wf_accepts_reserved : (Instr.wrIgnored 0x7F#7 1#32).wellFormed = true := by decide

/-! ### Decode: STAGE words (30 R102), the queue bits of 30 R103 set where a row has them -/

theorem test_decode_cwSpinup : reads (.stage .zero 0b11100001#8) (.cwSpinup .zero) = true := by decide

theorem test_decode_cwCruise : reads (.stage .one 0b01000010#8) (.cwCruise .one) = true := by decide

theorem test_decode_cwSpindown : reads (.stage .zero 0b00100001#8) (.cwSpindown .zero) = true := by decide

theorem test_decode_ccwSpinup : reads (.stage .one 0b00011110#8) (.ccwSpinup .one) = true := by decide

theorem test_decode_ccwCruise : reads (.stage .zero 0b00001110#8) (.ccwCruise .zero) = true := by decide

theorem test_decode_ccwSpindown : reads (.stage .zero 0b00000111#8) (.ccwSpindown .zero) = true := by decide

theorem test_decode_ccwCreep : reads (.stage .one 0b00000011#8) (.ccwCreep .one) = true := by decide

theorem test_decode_cwCreep : reads (.stage .zero 0b00000001#8) (.cwCreep .zero) = true := by decide

theorem test_decode_idle : reads (.stage .one 0b00000000#8) (.idle .one) = true := by decide

/-! ### Decode: EVT words (30 R112) -/

theorem test_decode_tick : reads (.evt 0b11#2) .tick = true := by decide

theorem test_decode_evt_disabled : rejects (.evt 0b01#2) .noEvent = true := by decide

theorem test_decode_evt_not_pending : rejects (.evt 0b10#2) .noEvent = true := by decide

/-! ### Decode: HOST words (30 R106 to R109), as 95 2.9 prints them -/

theorem test_decode_rd_global : reads (.host 0x0100000000#40) (.rd 0x01#7) = true := by decide

theorem test_decode_rd_data_ignored : reads (.host 0x61FFFFFFFF#40) (.rd 0x61#7) = true := by decide

theorem test_decode_wrTimCtrl : reads (.host 0x80FFFFFFFE#40) (.wrTimCtrl 0xFFFFFFFE#32) = true := by decide

theorem test_decode_wrTimPeriod : reads (.host 0x8100000FA0#40) (.wrTimPeriod 4000#32) = true := by decide

theorem test_decode_wrCommit : reads (.host 0x8300000002#40) (.wrCommit 2#32) = true := by decide

theorem test_decode_wrSpinPeriod : reads (.host 0x840000000C#40) (.wrSpinPeriod 12#32) = true := by decide

theorem test_decode_wrShadowFlags : reads (.host 0xE0000001FF#40) (.wrShadowFlags .one 0x1FF#32) = true := by decide

theorem test_decode_wrCruiseSteps : reads (.host 0xC5000003E8#40) (.wrCruiseSteps .zero 1000#32) = true := by decide

theorem test_decode_wrCwCreepSteps : reads (.host 0xC600000E10#40) (.wrCwCreepSteps .zero 3600#32) = true := by decide

theorem test_decode_wrCcwCreepSteps : reads (.host 0xE7000000C8#40) (.wrCcwCreepSteps .one 200#32) = true := by decide

theorem test_decode_wrCurSpinup : reads (.host 0xC800000064#40) (.wrCurSpinup .zero 100#32) = true := by decide

theorem test_decode_wrCurCruise : reads (.host 0xE900000046#40) (.wrCurCruise .one 70#32) = true := by decide

theorem test_decode_wrCurSpindown : reads (.host 0xCA00000063#40) (.wrCurSpindown .zero 99#32) = true := by decide

theorem test_decode_wrCurCreep : reads (.host 0xCB0000001E#40) (.wrCurCreep .zero 30#32) = true := by decide

theorem test_decode_wrCurDrop : reads (.host 0xCC00000005#40) (.wrCurDrop .zero 5#32) = true := by decide

theorem test_decode_wrCreepPeriod : reads (.host 0xED000001FF#40) (.wrCreepPeriod .one 0x1FF#32) = true := by decide

theorem test_decode_wrBump : reads (.host 0xEE00000007#40) (.wrBump .one 7#32) = true := by decide

theorem test_decode_wrIgnored_read_only : reads (.host 0x8200000001#40) (.wrIgnored 0x02#7 1#32) = true := by decide

theorem test_decode_wrIgnored_reserved : reads (.host 0xFF00000001#40) (.wrIgnored 0x7F#7 1#32) = true := by decide

/-! ### Decode: CAN frames (43 R211 to R215) -/

theorem test_decode_cmd2 : reads (.can ⟨2#8, [1#8, 2#8, 3#8, 4#8, 5#8, 6#8, 7#8, 8#8]⟩)
    (.cmd2SetCurrents 1#8 2#8 3#8 4#8 5#8 6#8 7#8 8#8) = true := by decide

theorem test_decode_cmd3 : reads (.can ⟨3#8, [5#8, 6#8, 7#8]⟩) (.cmd3SetPeriods 5#8 6#8 7#8) = true := by decide

theorem test_decode_cmd4 : reads (.can ⟨4#8, [0#8, 0x0E#8, 0x10#8, 0#8, 1#8, 2#8]⟩)
    (.cmd4QueueMove 0#8 0x0E#8 0x10#8 0#8 1#8 2#8) = true := by decide

theorem test_decode_cmd7 : reads (.can ⟨7#8, []⟩) .cmd7Execute = true := by decide

theorem test_decode_can_unknown : rejects (.can ⟨129#8, [100#8]⟩) .unknownCommand = true := by decide

theorem test_decode_can_short : rejects (.can ⟨3#8, [5#8, 6#8]⟩) .shortPayload = true := by decide

theorem test_decode_can_long :
    rejects (.can ⟨7#8, [0#8, 0#8, 0#8, 0#8, 0#8, 0#8, 0#8, 0#8, 0#8]⟩) .longPayload = true := by decide

/-! ### Encode: words of 30 R101, R106 to R109, R112 -/

theorem test_encode_cwSpindown : encode (.cwSpindown .one) = .stage .one 0b00100000#8 := by decide

theorem test_encode_tick : encode .tick = .evt 0b11#2 := by decide

theorem test_encode_rd : encode (.rd 0x61#7) = .host 0x6100000000#40 := by decide

theorem test_encode_wrBump : encode (.wrBump .one 7#32) = .host 0xEE00000007#40 := by decide

theorem test_encode_wrCurDrop : encode (.wrCurDrop .zero 5#32) = .host 0xCC00000005#40 := by decide

/-! ### The opcode table's words: decoded, and run by the next step -/

theorem test_tableWord_stage : decodeTableWord 8 0x40 = some (.cwCruise .zero) := by decide

theorem test_tableWord_evt : decodeTableWord 8 0b11 = some .tick := by decide

theorem test_tableWord_execute : decodeTableWord 8 7 = some .cmd7Execute := by decide

theorem test_tableWord_host : decodeTableWord 40 0x8300000001 = some (.wrCommit 1#32) := by decide

theorem test_fetch_host :
    holdsAfter (step (State.reset.withFetchWord 40 0x840000000C)) (fun t => t.spinPeriod == 12#8 && t.turns == []) = true := by
  decide

/-- 41 R156 with a count of 0, in the tick its word is placed in. -/
theorem test_fetch_stage :
    holdsAfter (step (State.reset.withFetchWord 8 0x40)) (fun t => t.ax0.motionFlags == 0#8 && !t.uif) = true := by
  decide

theorem test_fetch_evt :
    holdsAfter (step (({ State.reset with commit := 1#2 } : State).withFetchWord 8 0b11)) (fun t => t.commit == 0#2) = true := by
  decide

theorem test_fetch_execute :
    holdsAfter (step (State.reset.withFetchWord 8 7)) (fun t => t == State.reset) = true := by
  decide

/-! ### Stage actions: the examples of 41 R155 to R163 and rows of 95 2.3 to 2.7 -/

/-- 41 R155, the first example. -/
theorem test_cwSpinup_wraps :
    holdsAfter (exec (.cwSpinup .zero) (onAxis0 1#8
        { zeroAxis with motionFlags := 0x80#8, spinPointer := 5#6, phaseAngle := 3598#12, curSpinup := 50#7 }))
      (fun t => t.ax0.phaseAngle == 3#12 && duties t.ax0 == (2000, 495, 504) && t.ax0.spinPointer == 6#6) = true := by
  decide

/-- 41 R155, the completion example. -/
theorem test_cwSpinup_completes :
    holdsAfter (exec (.cwSpinup .zero) (onAxis0 3#8
        { zeroAxis with motionFlags := 0xC0#8, spinPointer := 32#6, spinSubcount := 2#8, phaseAngle := 100#12,
                        curSpinup := 100#7 }))
      (fun t => t.ax0.motionFlags == 0x40#8 && duties t.ax0 == (3947, 631, 1422) && t.ax0.spinPointer == 33#6) = true := by
  decide

/-- 41 R156, the first tick of the example. -/
theorem test_cwCruise_wraps :
    holdsAfter (exec (.cwCruise .zero) (onAxis0 0#8
        { zeroAxis with motionFlags := 0x40#8, cruiseSteps := 2#32, phaseAngle := 3590#12, curCruise := 80#7,
                        curDrop := 10#7 }))
      (fun t => t.ax0.phaseAngle == 23#12 && duties t.ax0 == (3198, 744, 856) && t.ax0.cruiseSteps == 1#32) = true := by
  decide

/-- 95 2.4, row 2: a count of 0 with a stage queued. -/
theorem test_cwCruise_empty :
    holdsAfter (exec (.cwCruise .zero) (onAxis0 0#8
        { zeroAxis with motionFlags := 0x60#8, phaseAngle := 700#12, curCruise := 80#7, curDrop := 10#7 }))
      (fun t => t.ax0.motionFlags == 0x20#8 && duties t.ax0 == (0, 0, 0)) = true := by
  decide

/-- 41 R157, the example. -/
theorem test_cwSpindown_completes :
    holdsAfter (exec (.cwSpindown .zero) (onAxis0 1#8
        { zeroAxis with motionFlags := 0x21#8, spinPointer := 1#6, phaseAngle := 10#12, curSpindown := 100#7 }))
      (fun t => t.ax0.motionFlags == 0x01#8 && duties t.ax0 == (4000, 967, 1033) && t.ax0.spinPointer == 0#6) = true := by
  decide

/-- 95 2.5, row 1. -/
theorem test_cwSpindown_starts :
    holdsAfter (exec (.cwSpindown .zero) (onAxis0 1#8
        { zeroAxis with motionFlags := 0x20#8, spinPointer := 33#6, curSpindown := 100#7, curDrop := 5#7 }))
      (fun t => t.ax0.phaseAngle == 33#12 && duties t.ax0 == (3997, 902, 1101) && t.ax0.spinPointer == 32#6) = true := by
  decide

/-- 41 R158, the example. -/
theorem test_ccwSpinup_waits :
    holdsAfter (exec (.ccwSpinup .zero) (onAxis0 2#8
        { zeroAxis with motionFlags := 0x10#8, spinPointer := 7#6, phaseAngle := 3#12, curSpinup := 100#7 }))
      (fun t => t.ax0.phaseAngle == 3596#12 && duties t.ax0 == (4000, 1012, 988) && t.ax0.spinSubcount == 1#8) = true := by
  decide

/-- 41 R159, the example. -/
theorem test_ccwCruise_wraps :
    holdsAfter (exec (.ccwCruise .zero) (onAxis0 0#8
        { zeroAxis with motionFlags := 0x08#8, cruiseSteps := 5#32, phaseAngle := 10#12, curCruise := 100#7 }))
      (fun t => t.ax0.phaseAngle == 3577#12 && duties t.ax0 == (3998, 1070, 931) && t.ax0.cruiseSteps == 4#32) = true := by
  decide

/-- 41 R160, the example. -/
theorem test_ccwSpindown_wraps :
    holdsAfter (exec (.ccwSpindown .zero) (onAxis0 1#8
        { zeroAxis with motionFlags := 0x04#8, spinPointer := 33#6, curSpindown := 60#7 }))
      (fun t => t.ax0.phaseAngle == 3567#12 && duties t.ax0 == (2398, 660, 541) && t.ax0.spinPointer == 32#6) = true := by
  decide

/-- 41 R161, the first tick of the example: the entry value 901 is not in the window. -/
theorem test_ccwCreep_before_window :
    holdsAfter (exec (.ccwCreep .zero) (onAxis0 0#8
        { zeroAxis with motionFlags := 0x02#8, ccwCreepSteps := 901#32, ccwCreepCurOp := 30#7, bump := 2#2,
                        creepPeriod := 1#8 }))
      (fun t => t.ax0.phaseAngle == 3599#12 && duties t.ax0 == (1200, 300, 299) && t.ax0.ccwCreepCurOp == 30#7) = true := by
  decide

/-- 41 R161, the second tick of the example: bumped. -/
theorem test_ccwCreep_bumped :
    holdsAfter (exec (.ccwCreep .zero) (onAxis0 0#8
        { zeroAxis with motionFlags := 0x02#8, ccwCreepSteps := 900#32, ccwCreepCurOp := 30#7, bump := 2#2,
                        creepPeriod := 1#8, phaseAngle := 3599#12 }))
      (fun t => t.ax0.phaseAngle == 3598#12 && duties t.ax0 == (4000, 1006, 994) && t.ax0.ccwCreepCurOp == 100#7) = true := by
  decide

/-- 41 R162, the first tick of the example: no step. -/
theorem test_cwCreep_waits :
    holdsAfter (exec (.cwCreep .zero) (onAxis0 0#8
        { zeroAxis with motionFlags := 0x01#8, cwCreepSteps := 1#32, cwCreepCurOp := 30#7, curDrop := 5#7,
                        creepPeriod := 2#8, phaseAngle := 3599#12 }))
      (fun t => t.ax0.phaseAngle == 3599#12 && duties t.ax0 == (1200, 300, 299) && t.ax0.creepSubcount == 1#8) = true := by
  decide

/-- 41 R162, the second tick of the example: the last step and the drop write. -/
theorem test_cwCreep_completes :
    holdsAfter (exec (.cwCreep .zero) (onAxis0 0#8
        { zeroAxis with motionFlags := 0x01#8, cwCreepSteps := 1#32, cwCreepCurOp := 30#7, curDrop := 5#7,
                        creepPeriod := 2#8, creepSubcount := 1#8, phaseAngle := 3599#12 }))
      (fun t => t.ax0.phaseAngle == 0#12 && duties t.ax0 == (200, 50, 50) && t.ax0.motionFlags == 0#8) = true := by
  decide

/-- 95 2.7, row 1: idle, nothing changes. -/
theorem test_idle_keeps :
    holdsAfter (exec (.idle .zero) (onAxis0 5#8
        { zeroAxis with phaseAngle := 777#12, spinPointer := 12#6, spinSubcount := 3#8, curDrop := 50#7 }))
      (fun t => t.ax0.phaseAngle == 777#12 && t.ax0.spinSubcount == 3#8 && duties t.ax0 == (0, 0, 0)) = true := by
  decide

/-- 95 2.1, row `1234 | 57`: the duty is truncated. -/
theorem test_duty_truncates : (duty hardware 57#7 3634).toNat = 2277 := by decide

/-- 95 2.1, row `900 | 100 | 1`: a reversed axis reads the offsets 2400 and 1200. -/
theorem test_duty_reversed :
    duties (writeDuty hardware true 100#7 { zeroAxis with phaseAngle := 900#12 }) = (2000, 3732, 268) := by
  decide

/-! ### The handler: 40 R139 and 95 2.8 -/

/-- 40 R139, the example. -/
theorem test_tick_hands_off :
    holdsAfter (exec .tick { onAxis0 0#8 { zeroAxis with shadowFlags := 0x01#8, curCreep := 30#7 } with commit := 1#2 })
      (fun t => t.ax0.motionFlags == 0x01#8 && t.ax0.ccwCreepCurOp == 30#7 && t.commit == 0#2 && t.ax1 == zeroAxis) = true := by
  decide

/-- 95 2.8, row 6: the last step clears the bit, then the hand-off sets it again. -/
theorem test_tick_recommits :
    holdsAfter (exec .tick { onAxis0 0#8 { zeroAxis with motionFlags := 0x01#8, cwCreepSteps := 1#32, cwCreepCurOp := 30#7,
                                                         curDrop := 5#7, shadowFlags := 0x01#8 } with commit := 1#2 })
      (fun t => t.ax0.motionFlags == 0x01#8 && t.ax0.phaseAngle == 1#12 && duties t.ax0 == (200, 49, 50)) = true := by
  decide

/-! ### The host port: the examples of 42 and rows of 95 2.9 -/

/-- 42 R181, the example. -/
theorem test_rd_period :
    holdsAfter (exec (.rd 0x01#7) State.reset) (fun t => t.readData == some 4000#32 && t.ax0 == zeroAxis) = true := by decide

/-- 42 R181, the example: a reserved address. -/
theorem test_rd_reserved : holdsAfter (exec (.rd 0x3F#7) State.reset) (fun t => t.readData == some 0#32) = true := by decide

/-- 95 2.9, row 2. -/
theorem test_wrTimCtrl_low_bits :
    holdsAfter (exec (.wrTimCtrl 0xFFFFFFFE#32) State.reset) (fun t => !t.cen && t.uie) = true := by decide

/-- 95 2.9, row 5. -/
theorem test_wrTimPeriod_low_bits :
    holdsAfter (exec (.wrTimPeriod 0x12345#32) State.reset) (fun t => t.timPeriod == 0x2345#16) = true := by decide

/-- 42 R184, two writes accumulate. -/
theorem test_wrCommit_accumulates :
    holdsAfter (exec (.wrCommit 2#32) { State.reset with commit := 1#2 }) (fun t => t.commit == 3#2) = true := by decide

/-- 95 2.9, row 13. -/
theorem test_wrSpinPeriod_low_bits :
    holdsAfter (exec (.wrSpinPeriod 0x100#32) { State.reset with spinPeriod := 9#8 }) (fun t => t.spinPeriod == 0#8) = true := by
  decide

/-- 95 2.9, row 17. -/
theorem test_wrShadowFlags_low_bits :
    holdsAfter (exec (.wrShadowFlags .one 0x1FF#32) State.reset)
      (fun t => t.ax1.shadowFlags == 0xFF#8 && t.ax0.shadowFlags == 0#8) = true := by decide

/-- 95 2.9, row 23. -/
theorem test_wrCruiseSteps_whole :
    holdsAfter (exec (.wrCruiseSteps .one 0xFFFFFFFF#32) State.reset) (fun t => t.ax1.cruiseSteps == 0xFFFFFFFF#32) = true := by
  decide

/-- 95 2.9, row 24. -/
theorem test_wrCwCreepSteps :
    holdsAfter (exec (.wrCwCreepSteps .zero 3600#32) State.reset)
      (fun t => t.ax0.cwCreepSteps == 3600#32 && t.ax0.ccwCreepSteps == 0#32) = true := by decide

/-- 95 2.9, row 25. -/
theorem test_wrCcwCreepSteps :
    holdsAfter (exec (.wrCcwCreepSteps .one 200#32) State.reset)
      (fun t => t.ax1.ccwCreepSteps == 200#32 && t.ax1.cwCreepSteps == 0#32) = true := by decide

/-- 42 R190, the example: clamped. -/
theorem test_wrCurSpinup_clamps :
    holdsAfter (exec (.wrCurSpinup .zero 200#32) State.reset) (fun t => t.ax0.curSpinup == 100#7) = true := by decide

/-- 42 R190, the corner case: only the low byte is looked at. -/
theorem test_wrCurSpinup_low_byte :
    holdsAfter (exec (.wrCurSpinup .zero 0x100#32) { State.reset with ax0 := { zeroAxis with curSpinup := 7#7 } })
      (fun t => t.ax0.curSpinup == 0#7) = true := by decide

/-- 95 2.9, row 31. -/
theorem test_wrCurCruise : holdsAfter (exec (.wrCurCruise .one 70#32) State.reset) (fun t => t.ax1.curCruise == 70#7) = true := by
  decide

/-- 95 2.9, row 32. -/
theorem test_wrCurSpindown :
    holdsAfter (exec (.wrCurSpindown .zero 99#32) State.reset) (fun t => t.ax0.curSpindown == 99#7) = true := by decide

/-- 95 2.9, row 33: the operating copies stay. -/
theorem test_wrCurCreep :
    holdsAfter (exec (.wrCurCreep .zero 30#32) State.reset)
      (fun t => t.ax0.curCreep == 30#7 && t.ax0.cwCreepCurOp == 0#7) = true := by decide

/-- 95 2.9, row 34. -/
theorem test_wrCurDrop :
    holdsAfter (exec (.wrCurDrop .zero 5#32) State.reset) (fun t => t.ax0.curDrop == 5#7 && duties t.ax0 == (0, 0, 0)) = true := by
  decide

/-- 95 2.9, row 36. -/
theorem test_wrCreepPeriod_low_bits :
    holdsAfter (exec (.wrCreepPeriod .one 0x1FF#32) State.reset) (fun t => t.ax1.creepPeriod == 255#8) = true := by decide

/-- 95 2.9, row 38. -/
theorem test_wrBump_low_bits : holdsAfter (exec (.wrBump .one 7#32) State.reset) (fun t => t.ax1.bump == 3#2) = true := by decide

/-- 42 R197, the example. -/
theorem test_wrIgnored :
    holdsAfter (exec (.wrIgnored 0x41#7 0xFF#32) State.reset) (fun t => t == State.reset) = true := by decide

/-! ### The command layer: 43 R212 to R216 -/

/-- 43 R213: three writes, to 0x4D, 0x6D and 0x04. -/
theorem test_cmd3_issues :
    holdsAfter (exec (.cmd3SetPeriods 5#8 6#8 7#8) State.reset)
      (fun t => t.hostQueue == [0xCD00000005#40, 0xED00000006#40, 0x8400000007#40]) = true := by decide

/-- 43 R216: an empty table is not executed. -/
theorem test_cmd7_empty : holdsAfter (exec .cmd7Execute State.reset) (fun t => t == State.reset) = true := by decide

/-- 43 R215: a table with no move loaded commits no axis. -/
theorem test_cmd7_replays :
    holdsAfter (exec .cmd7Execute { State.reset with moveTable := [.setPeriods 5#8 6#8 7#8] })
      (fun t => t.hostQueue == [0xCD00000005#40, 0xED00000006#40, 0x8400000007#40, 0x8300000000#40]) = true := by decide

/-- 43 R212 says no more of command 2 than that its map decides: whatever the map, the handler touches the queue alone. -/
theorem test_cmd2_issues_only :
    holdsAfter (exec (.cmd2SetCurrents 1#8 2#8 3#8 4#8 5#8 6#8 7#8 8#8) State.reset)
      (fun t => t.ax0 == zeroAxis && t.commit == 0#2 && t.moveTable == []) = true := by decide

/-- 43 R214: select 0 is motor 0, CW creep. -/
theorem test_cmd4_type_zero : cmd4Select 0#8 = some ⟨.zero, some .cwCreep, 0x01#8⟩ := by decide

/-- 43 R215: the single command executes the table with it, and the commit follows. -/
theorem test_single_command_triggers :
    holdsAfter (step { State.reset with moveTable := [.setPeriods 5#8 6#8 7#8], turns := [.canDispatch ⟨3#8, [1#8, 2#8, 3#8]⟩] })
      (fun t => t.hostQueue == [0xCD00000005#40, 0xED00000006#40, 0x8400000007#40, 0xCD00000001#40, 0xED00000002#40,
        0x8400000003#40, 0x8300000000#40]) = true := by decide

/-- 20 R89: an access of the host waits for those issued before it. -/
theorem test_host_keeps_order :
    holdsAfter (step { State.reset with hostQueue := [0xC0000000E1#40], turns := [.host 0x8300000001#40] })
      (fun t => t.ax0.shadowFlags == 0xE1#8 && t.commit == 0#2 && t.hostQueue == [0x8300000001#40]) = true := by decide

/-! ### The timer: 95 2.10 -/

/-- Row 10: the last count. -/
theorem test_clock_last_count :
    holdsAfter (step { State.reset with cen := true, cnt := 3999#16, turns := [.clock] })
      (fun t => t.cnt == 0#16 && t.uif) = true := by decide

/-- Row 11: the counter above a lowered period. -/
theorem test_clock_lowered_period :
    holdsAfter (step { State.reset with cen := true, cnt := 500#16, timPeriod := 100#16, turns := [.clock] })
      (fun t => t.cnt == 0#16 && t.uif) = true := by decide

/-- Row 7: the handler runs although the counter is stopped (entry 2: with no turn scheduled). -/
theorem test_handler_runs_when_stopped :
    holdsAfter (step { State.reset with uie := true, uif := true, cnt := 5#16 })
      (fun t => t.cnt == 5#16 && !t.uif) = true := by decide

/-! ### Witnesses: for each claim with premises, values that meet them -/

/-- A small admissible configuration, with a table that is not constant. -/
def smallConfig : Config where
  phaseMod := 6
  lutLen := 12
  dutyMax := 4
  rampLen := 3
  cruiseInc := 2
  creepInc := 1
  bumpWindow := 2
  curOne := 100
  fClk := 8
  timDiv := 4
  wave := fun i => [4, 3, 1, 0, 1, 3, 4, 3, 1, 0, 1, 3].getD i 0
  ramp := fun i => i

/-- An axis at the bounds of 10 R49. -/
def extremeAxis : AxisState :=
  { zeroAxis with
    phaseAngle := 3599#12, spinPointer := 33#6, spinSubcount := 254#8, creepSubcount := 254#8, curSpinup := 100#7,
    curCruise := 100#7, curSpindown := 100#7, curCreep := 100#7, curDrop := 100#7, cwCreepCurOp := 100#7,
    ccwCreepCurOp := 100#7, pwmCcr0 := 4000#16, pwmCcr1 := 4000#16, pwmCcr2 := 4000#16, motionFlags := 0xFF#8 }

/-- A state at rest in which ticks can occur. -/
def ready (a : AxisState) (turns : List Turn) : State :=
  { State.reset with ax0 := a, cen := true, uie := true, turns := turns }

theorem test_witness_DecodeEncodeRoundTrip : (Instr.wrIgnored 0x6F#7 0xFFFFFFFF#32).wellFormed = true := by decide

theorem test_witness_EncodeDecodeHostWord :
    (0x8000000000#40 : HostWord).getLsbD 39 = true ∧ (0x7FFFFFFFFF#40 : HostWord).getLsbD 39 = false := by decide

theorem test_witness_HostWordsFollowTheRegisterMap :
    (IsWrite 0xEE00000007#40 0x6E#7 7#32 ∧ (0x6E#7, Instr.wrBump .one 7#32) ∈ writeRows 7#32) ∧
    (IsWrite 0xEF00000007#40 0x6F#7 7#32 ∧ 0x6F#7 ∉ (writeRows 7#32).map Prod.fst) ∧
    IsRead 0x7FFFFFFFFF#40 0x7F#7 0xFFFFFFFF#32 := by
  unfold IsWrite IsRead; decide

theorem test_witness_StepRunsTheFetchedInstruction :
    (∃ s : State, s.turns = .host 0x8300000001#40 :: [] ∧ s.hostQueue = [] ∧
      decode (.host 0x8300000001#40) = .ok (.wrCommit 1#32)) ∧
    (∃ s : State, s.turns = .host 0x8300000001#40 :: [] ∧ s.hostQueue = 0x0100000000#40 :: [] ∧
      decode (.host 0x0100000000#40) = .ok (.rd 1#7)) ∧
    (∃ s : State, s.turns = .port :: [] ∧ s.hostQueue = 0x0100000000#40 :: [] ∧
      decode (.host 0x0100000000#40) = .ok (.rd 1#7)) ∧
    (∃ s : State, s.turns = .canDispatch ⟨7#8, []⟩ :: [] ∧ decode (.can ⟨7#8, []⟩) = .ok .cmd7Execute) ∧
    (∃ s : State, s.turns = .canDispatch ⟨3#8, [1#8, 2#8, 3#8]⟩ :: [] ∧
      decode (.can ⟨3#8, [1#8, 2#8, 3#8]⟩) = .ok (.cmd3SetPeriods 1#8 2#8 3#8) ∧
      Instr.cmd3SetPeriods 1#8 2#8 3#8 ≠ .cmd7Execute ∧ s.moveTable = []) ∧
    (∃ s : State, s.turns = .engine :: [] ∧
      decode (.evt (BitVec.ofBool s.uie ++ BitVec.ofBool s.uif)) = .ok .tick) :=
  ⟨⟨{ State.reset with turns := [.host 0x8300000001#40] }, rfl, rfl, rfl⟩,
    ⟨{ State.reset with turns := [.host 0x8300000001#40], hostQueue := [0x0100000000#40] }, rfl, rfl, rfl⟩,
    ⟨{ State.reset with turns := [.port], hostQueue := [0x0100000000#40] }, rfl, rfl, rfl⟩,
    ⟨{ State.reset with turns := [.canDispatch ⟨7#8, []⟩] }, rfl, rfl⟩,
    ⟨{ State.reset with turns := [.canDispatch ⟨3#8, [1#8, 2#8, 3#8]⟩] }, rfl, rfl, by decide, rfl⟩,
    ⟨{ State.reset with turns := [.engine], uie := true, uif := true }, rfl, rfl⟩⟩

theorem test_witness_HostAccessesKeepProgramOrder :
    (∀ t ∈ [Turn.host 0x8300000001#40, .port], t = .port ∨ ∃ w, t = .host w) ∧
    (∃ s : State, s.turns = [.host 0x8300000001#40, .port] ++ [.engine] ∧ s.hostQueue = [0xC0000000E1#40] ∧
      [Turn.host 0x8300000001#40, .port].count .port ≤ s.hostQueue.length) :=
  ⟨by simp, { State.reset with turns := [.host 0x8300000001#40, .port, .engine], hostQueue := [0xC0000000E1#40] },
    rfl, rfl, by decide⟩

theorem test_witness_HandlerStartsWhenPendingAndEnabled :
    (∃ s : State, s.turns = [.engine] ∧ s.uie = true ∧ s.uif = true) ∧
    (∃ s : State, s.turns = [.engine] ∧ ¬(s.uie = true ∧ s.uif = true)) :=
  ⟨⟨{ State.reset with turns := [.engine], uie := true, uif := true }, rfl, rfl, rfl⟩,
    ⟨{ State.reset with turns := [.engine], uif := true }, rfl, by decide⟩⟩

theorem test_witness_ResetInputRestoresTheBlock :
    ({ onAxis0 7#8 extremeAxis with rev1 := true, turns := [.reset, .clock] } : State).turns = .reset :: [.clock] := rfl

theorem test_witness_extremeAxis : extremeAxis.Inv hardware := by constructor <;> decide

theorem test_witness_InvariantKeptByEveryStep :
    ∃ s : State, s.Inv ∧ ∃ t, step s = .next t ∧ t.ax0 ≠ s.ax0 := by
  refine ⟨{ State.reset with ax0 := extremeAxis, ax1 := extremeAxis, turns := [.host 0xC000000001#40] }, ?_, _, rfl, ?_⟩
  · intro m; cases m <;> exact test_witness_extremeAxis
  · decide

theorem test_witness_smallConfig : smallConfig.Admissible where
  waveBound := by decide
  wavePeriodic := fun i h => (by decide : ∀ i, i < 6 → smallConfig.wave (i + 6) = smallConfig.wave i) i
    (by change i + 6 < 12 at h; omega)
  waveSymmetric := fun i h => (by decide : ∀ i, i < 7 → smallConfig.wave (6 - i) = smallConfig.wave i) i
    (by change i ≤ 6 at h; omega)
  waveSymmetricHalf := fun d h => (by decide : ∀ d, d < 4 → smallConfig.wave (3 + d) = smallConfig.wave (3 - d)) d
    (by change d ≤ 3 at h; omega)
  waveFalls := by decide
  waveRises := by
    intro i h h'
    have h3 : 3 ≤ i := h
    have h6 : i < 6 := h'
    obtain rfl | rfl | rfl : i = 3 ∨ i = 4 ∨ i = 5 := by omega
    all_goals decide
  waveMax := by decide
  waveMin := by decide
  rampLinear := ⟨0, 1, by decide, by decide⟩
  rampEnds := by decide
  phaseFits := by decide
  cruiseFits := by decide
  phaseWidth := by decide
  dutyWidth := by decide
  rampWidth := by decide
  curWidth := by decide

theorem test_witness_InvariantKeptForAnyTables :
    smallConfig.Admissible ∧
      ({ zeroAxis with phaseAngle := 5#12, spinPointer := 2#6, motionFlags := 0x80#8, curSpinup := 100#7 } : AxisState).Inv
        smallConfig :=
  ⟨test_witness_smallConfig, by constructor <;> decide⟩

theorem test_witness_DutyArithmetic :
    smallConfig.Admissible ∧ 11 < smallConfig.lutLen ∧ (100#7).toNat = smallConfig.curOne ∧ (0#7).toNat = 0 :=
  ⟨test_witness_smallConfig, by decide, by decide, by decide⟩

theorem test_witness_EngineIndexesStayInTheTable :
    extremeAxis.Inv hardware ∧ extremeAxis.phaseAngle.toNat + offsetB hardware false = 5999 ∧
      (∀ i, i ≤ 5999 → (fun i => if i ≤ 5999 then hardware.wave i else 7) i = hardware.wave i) :=
  ⟨test_witness_extremeAxis, by decide, fun _ h => if_pos h⟩

theorem test_witness_MoveTableNeverHoldsATrigger :
    ∃ s : State, NoTriggerBuffered s ∧ ∃ t, step s = .next t ∧ t.moveTable = [.setPeriods 1#8 2#8 3#8, .setPeriods 4#8 5#8 6#8] :=
  ⟨{ State.reset with moveTable := [.setPeriods 1#8 2#8 3#8], turns := [.canReceive ⟨3#8, [4#8, 5#8, 6#8]⟩] },
    by unfold NoTriggerBuffered; decide, _, rfl, rfl⟩

theorem test_witness_HostNeverWritesEngineState :
    Instr.wrIgnored 0x41#7 1#32 ≠ .tick ∧ ∀ m st, Instr.wrIgnored 0x41#7 1#32 ≠ stageInstr m st :=
  ⟨by decide, by intro m st; cases st <;> exact Instr.noConfusion⟩

theorem test_witness_EngineNeverWritesHostState :
    (Instr.tick = .tick) ∧ ∃ m st, Instr.ccwCreep .one = stageInstr m st := ⟨rfl, .one, .ccwCreep, rfl⟩

theorem test_witness_MotionFlagsChangeOnlyInATick :
    (∃ s t : State, step s = .next t ∧ (t.axis .zero).motionFlags ≠ (s.axis .zero).motionFlags ∧
      s.turns.head? = some .reset) ∧
    (∃ s t : State, step s = .next t ∧ (t.axis .zero).motionFlags ≠ (s.axis .zero).motionFlags ∧ s.turns = []) :=
  ⟨⟨{ onAxis0 0#8 extremeAxis with turns := [.reset] }, _, rfl, by decide, rfl⟩,
    ⟨{ onAxis0 0#8 { zeroAxis with motionFlags := 0x40#8 } with uie := true, uif := true }, _, rfl, by decide, rfl⟩⟩

theorem test_witness_TickClearsAtMostTheActiveBit :
    (0x83#8).getLsbD (7 : Fin 8) = true ∧ (∀ j : Fin 8, 7 < j → (0x83#8).getLsbD j = false) ∧
    (0x01#8).getLsbD (0 : Fin 8) = true ∧ (∀ j : Fin 8, 0 < j → (0x01#8).getLsbD j = false) := by decide

theorem test_witness_TickRunsBothAxesAndTheHandoff :
    decode (.stage .zero (({ State.reset with commit := 2#2 } : State).axis .zero).motionFlags) = .ok (.idle .zero) ∧
    committed .zero { State.reset with commit := 2#2 } = false ∧ committed .one { State.reset with commit := 2#2 } = true := by
  refine ⟨rfl, by decide, by decide⟩

theorem test_witness_ShadowIsInertUntilCommitted : committed .zero { State.reset with commit := 2#2 } = false := by decide

theorem test_witness_IdleAxisStaysUntilCommitted :
    ∃ s : State, committed .zero s = false ∧ committed .one s = true ∧ (s.axis .zero).motionFlags = 0#8 ∧
      s.turns = ticks 2 ++ [.clock] :=
  ⟨{ ready { zeroAxis with phaseAngle := 777#12 } (ticks 2 ++ [.clock]) with commit := 2#2 }, by decide, by decide, rfl, rfl⟩

theorem test_witness_AxesNeverInterfere :
    AgreeOn .zero (ready extremeAxis [.host 0xE0000000E1#40, .engine])
      { ready extremeAxis [.host 0xE900000046#40, .engine] with ax1 := extremeAxis, rev1 := true } where
  axis := rfl
  rev := rfl
  spinPeriod := rfl
  commit := rfl
  timer := ⟨rfl, rfl, rfl, rfl, rfl⟩
  turns := .cons (.elsewhere _ _ ⟨by decide, by decide, by decide⟩ ⟨by decide, by decide, by decide⟩) (.cons .engine .nil)
  queue := ⟨rfl, rfl⟩

/-- The clauses of a spin tick: below the period, on it with the pointer short of its end, on it with the pointer arriving. -/
theorem test_witness_SpinActions :
    ((1#8).toNat + 1 < (3#8).toNat ∧ (3#8).toNat ≤ (2#8).toNat + 1) ∧
    (if (31#6).toNat < 33 then (31#6).toNat + 1 else (31#6).toNat) ≠ 33 ∧
    (if (33#6).toNat < 33 then (33#6).toNat + 1 else (33#6).toNat) = 33 ∧
    (2#6).toNat - 1 ≠ 0 ∧ (0#6).toNat - 1 = 0 := by decide

/-- The clauses of a counted stage: count 0, a last count and a longer one, below the creep period and on it. -/
theorem test_witness_CountedActions :
    zeroAxis.cruiseSteps = 0#32 ∧ ({ zeroAxis with cruiseSteps := 1#32 } : AxisState).cruiseSteps ≠ 0#32 ∧
    ({ zeroAxis with cwCreepSteps := 900#32 } : AxisState).cwCreepSteps.toNat ≤ 900 ∧
    (0#8).toNat + 1 < (2#8).toNat ∧ (2#8).toNat ≤ (1#8).toNat + 1 := by decide

theorem test_witness_PointerAdvancesEveryPeriod :
    (∃ a : AxisState, decodeStage a.motionFlags = .cwSpinup ∧ a.spinSubcount = 0#8 ∧ a.spinPointer.toNat ≤ 33 ∧
      a.spinPointer.toNat + 32 < 33 ∧ 2 < max (3#8).toNat 1) ∧
    (∃ a : AxisState, decodeStage a.motionFlags = .ccwSpinup ∧ a.spinSubcount = 0#8 ∧ a.spinPointer.toNat + 0 ≤ 33 ∧
      a.spinPointer.toNat = 33) :=
  ⟨⟨{ zeroAxis with motionFlags := 0x80#8 }, by decide⟩,
    ⟨{ zeroAxis with motionFlags := 0x1E#8, spinPointer := 33#6 }, by decide⟩⟩

theorem test_witness_SpinUpDuration :
    (∃ a : AxisState, decodeStage a.motionFlags = .cwSpinup ∧ a.spinSubcount = 0#8 ∧ a.spinPointer.toNat = 0) ∧
    (∃ a : AxisState, decodeStage a.motionFlags = .ccwSpinup ∧ a.spinSubcount = 0#8 ∧ a.spinPointer.toNat = 33) :=
  ⟨⟨{ zeroAxis with motionFlags := 0xE1#8 }, by decide⟩,
    ⟨{ zeroAxis with motionFlags := 0x1E#8, spinPointer := 33#6 }, by decide⟩⟩

theorem test_witness_SpinDownDuration :
    (∃ a : AxisState, decodeStage a.motionFlags = .cwSpindown ∧ a.spinSubcount = 0#8 ∧ a.spinPointer.toNat = 33) ∧
    (∃ a : AxisState, decodeStage a.motionFlags = .ccwSpindown ∧ a.spinSubcount = 0#8 ∧ a.spinPointer.toNat = 0) :=
  ⟨⟨{ zeroAxis with motionFlags := 0x21#8, spinPointer := 33#6 }, by decide⟩, ⟨{ zeroAxis with motionFlags := 0x04#8 }, by decide⟩⟩

theorem test_witness_CruiseDuration :
    (∃ a : AxisState, decodeStage a.motionFlags = .cwCruise ∧ a.phaseAngle.toNat < 3600 ∧ a.cruiseSteps.toNat = 0) ∧
    (∃ a : AxisState, decodeStage a.motionFlags = .ccwCruise ∧ a.phaseAngle.toNat < 3600 ∧ a.cruiseSteps.toNat = 4294967295) :=
  ⟨⟨{ zeroAxis with motionFlags := 0x40#8, phaseAngle := 3599#12 }, by decide⟩,
    ⟨{ zeroAxis with motionFlags := 0x08#8, cruiseSteps := 0xFFFFFFFF#32 }, by decide⟩⟩

theorem test_witness_CreepDuration :
    (∃ a : AxisState, decodeStage a.motionFlags = .cwCreep ∧ a.phaseAngle.toNat < 3600 ∧ a.creepSubcount = 0#8 ∧
      a.cwCreepSteps.toNat = 0) ∧
    (∃ a : AxisState, decodeStage a.motionFlags = .ccwCreep ∧ a.phaseAngle.toNat < 3600 ∧ a.creepSubcount = 0#8 ∧
      a.ccwCreepSteps.toNat = 1) :=
  ⟨⟨{ zeroAxis with motionFlags := 0x01#8, phaseAngle := 3599#12 }, by decide⟩,
    ⟨{ zeroAxis with motionFlags := 0x03#8, ccwCreepSteps := 1#32 }, by decide⟩⟩

theorem test_witness_FullMove :
    (∃ s : State, Ticking s ∧ (s.axis .zero).motionFlags = 0xE1#8 ∧ AtRest (s.axis .zero) ∧
      1 ≤ (s.axis .zero).cruiseSteps.toNat ∧ (s.axis .zero).cwCreepSteps.toNat = 1 ∧
      66 * max s.spinPeriod.toNat 1 + (s.axis .zero).cruiseSteps.toNat + 1 * max (s.axis .zero).creepPeriod.toNat 1 = 68 ∧
      s.turns = ticks 68 ++ []) ∧
    (∃ s : State, Ticking s ∧ (s.axis .zero).motionFlags = 0x1E#8 ∧ AtRest (s.axis .zero) ∧
      1 ≤ (s.axis .zero).cruiseSteps.toNat ∧ (s.axis .zero).ccwCreepSteps.toNat = 1 ∧
      66 * max s.spinPeriod.toNat 1 + (s.axis .zero).cruiseSteps.toNat + 1 * max (s.axis .zero).creepPeriod.toNat 1 = 68 ∧
      s.turns = ticks 68 ++ []) := by
  refine ⟨⟨ready { zeroAxis with motionFlags := 0xE1#8, cruiseSteps := 1#32, cwCreepSteps := 1#32 } (ticks 68 ++ []),
      ⟨rfl, rfl, rfl, rfl⟩, rfl, ⟨rfl, rfl, rfl⟩, by decide, by decide, by decide, rfl⟩,
    ⟨ready { zeroAxis with motionFlags := 0x1E#8, cruiseSteps := 1#32, ccwCreepSteps := 1#32 } (ticks 68 ++ []),
      ⟨rfl, rfl, rfl, rfl⟩, rfl, ⟨rfl, rfl, rfl⟩, by decide, by decide, by decide, rfl⟩⟩

theorem test_witness_ScenarioOneElectricalTurn :
    ∃ s : State, Ticking s ∧ s.hostQueue = [] ∧ s.ax0.motionFlags = 0#8 ∧ s.ax0.creepSubcount = 0#8 ∧ s.ax0.phaseAngle.toNat < 3600 ∧
      3600 = 3600 * max s.ax0.creepPeriod.toNat 1 ∧
      s.turns = [.host 0xC600000E10#40, .host 0xC000000001#40, .host 0x8300000001#40] ++ ticks (1 + 3600) :=
  ⟨ready { zeroAxis with phaseAngle := 1234#12, creepPeriod := 1#8 }
      ([.host 0xC600000E10#40, .host 0xC000000001#40, .host 0x8300000001#40] ++ ticks (1 + 3600)),
    ⟨rfl, rfl, rfl, rfl⟩, rfl, rfl, rfl, by decide, by decide, rfl⟩

theorem test_witness_TimerClock :
    (∃ s : State, s.turns = [.clock] ∧ s.cen = false) ∧
    (∃ s : State, s.turns = [.clock] ∧ s.cen = true ∧ s.timPeriod.toNat = s.cnt.toNat + 1) ∧
    (∃ s : State, s.turns = [.clock] ∧ s.cen = true ∧ s.cnt.toNat + 1 + 1 = s.timPeriod.toNat) :=
  ⟨⟨{ State.reset with turns := [.clock] }, by decide⟩,
    ⟨{ State.reset with turns := [.clock], cen := true, cnt := 3999#16 }, by decide⟩,
    ⟨{ State.reset with turns := [.clock], cen := true, cnt := 3998#16 }, by decide⟩⟩

theorem test_witness_UpdateEventSetsPendingOnly :
    (∃ s : State, s.turns = [.event, .event] ∧ s.cen = true ∧ s.uif = false) ∧
    (∃ s : State, s.turns = [.event] ∧ s.cen = false) :=
  ⟨⟨{ State.reset with cen := true, turns := [.event, .event] }, by decide⟩,
    ⟨{ State.reset with turns := [.event] }, by decide⟩⟩

theorem test_witness_UpdateEventEveryPeriod :
    (∃ s : State, s.cen = true ∧ s.cnt = 0#16 ∧ 3 = max s.timPeriod.toNat 1 ∧
      s.turns = List.replicate 3 .clock ++ [.engine]) ∧
    (∃ s : State, s.cen = true ∧ s.cnt = 0#16 ∧ 1 = max s.timPeriod.toNat 1 ∧ s.turns = List.replicate 1 .clock ++ []) :=
  ⟨⟨{ State.reset with cen := true, timPeriod := 3#16, turns := List.replicate 3 .clock ++ [.engine] }, rfl, rfl, by decide, rfl⟩,
    ⟨{ State.reset with cen := true, timPeriod := 0#16, turns := List.replicate 1 .clock ++ [] }, rfl, rfl, by decide, rfl⟩⟩

theorem test_witness_ReadReturnsTheRegister :
    (0x74#7, 4000#32) ∈ registerTable { State.reset with ax1 := extremeAxis } ∧
      0x75#7 ∉ (registerTable State.reset).map Prod.fst ∧ 0x05#7 ∉ (registerTable State.reset).map Prod.fst ∧
      0x3F#7 ∉ (registerTable State.reset).map Prod.fst := by decide

theorem test_witness_OtherWritesAreIgnored :
    IsWrite 0xFF00000001#40 0x7F#7 1#32 ∧
    IsWrite 0x8200000001#40 0x02#7 1#32 ∧
    (IsWrite 0x8500000001#40 0x05#7 1#32 ∧ IsWrite 0xBF00000001#40 0x3F#7 1#32) ∧
    (base .zero + 0x01#7 ≤ 0x41#7 ∧ 0x41#7 ≤ base .zero + 0x04#7 ∧ base .one + 0x04#7 = 0x64#7) ∧
    (base .zero + 0x0F#7 ≤ 0x4F#7 ∧ 0x5F#7 = base .zero + 0x1F#7 ∧ 0x7F#7 ≤ base .one + 0x1F#7) := by
  unfold IsWrite; decide

theorem test_witness_SetPeriodsReachesTheRegisters : (onAxis0 9#8 extremeAxis).hostQueue = [] := rfl

/-- Whichever target the open map gives select 1, exactly one clause applies (entry 20). -/
theorem test_witness_QueueMoveAnySelect :
    (1#8 : Byte) ≠ 0#8 ∧ (Config.cmd4SelectOther 1#8 = none ∨ ∃ g, Config.cmd4SelectOther 1#8 = some g) := by
  refine ⟨by decide, ?_⟩
  cases Config.cmd4SelectOther 1#8 with
  | none => exact .inl rfl
  | some g => exact .inr ⟨g, rfl⟩

theorem test_witness_ExecuteReplaysTheTable :
    (NoTriggerBuffered State.reset ∧ State.reset.moveTable = []) ∧
    ∃ s : State, NoTriggerBuffered s ∧ s.moveTable = [.queueMove 0#8 0x10#8 0x0E#8 0#8 0#8 0#8] :=
  ⟨⟨by unfold NoTriggerBuffered; decide, rfl⟩,
    ⟨{ State.reset with moveTable := [.queueMove 0#8 0x10#8 0x0E#8 0#8 0#8 0#8] }, by unfold NoTriggerBuffered; decide, rfl⟩⟩

theorem test_witness_SyncLineExecutesTheTable :
    ∃ s : State, s.turns = .sync :: [] ∧ s.moveTable = [.setPeriods 1#8 2#8 3#8] :=
  ⟨{ State.reset with turns := [.sync], moveTable := [.setPeriods 1#8 2#8 3#8] }, rfl, rfl⟩

theorem test_witness_RejectedTableHasNoEffect :
    ∃ s : State, s.turns = .rejectTable :: [] ∧ s.moveTable = [.setPeriods 1#8 2#8 3#8] :=
  ⟨{ State.reset with turns := [.rejectTable], moveTable := [.setPeriods 1#8 2#8 3#8] }, rfl, rfl⟩

theorem test_witness_SingleCommandTriggersTheTable :
    (∃ s : State, s.turns = .canDispatch ⟨3#8, [1#8, 2#8, 3#8]⟩ :: [.engine]) ∧
    (decodeCommand ⟨3#8, [1#8, 2#8, 3#8]⟩ = .ok (.setPeriods 1#8 2#8 3#8) ∧ Command.setPeriods 1#8 2#8 3#8 ≠ .execute) ∧
    decodeCommand ⟨7#8, []⟩ = .ok .execute ∧ decodeCommand ⟨8#8, []⟩ = .error .unknownCommand :=
  ⟨⟨{ State.reset with turns := [.canDispatch ⟨3#8, [1#8, 2#8, 3#8]⟩, .engine] }, rfl⟩, ⟨rfl, by decide⟩, rfl, rfl⟩

theorem test_witness_ReceivedFrames :
    (∃ f : CanFrame, f.id = 2#8 ∧ f.payload = [1#8, 2#8, 3#8, 4#8, 5#8, 6#8, 7#8, 8#8] ∧ f.payload.length ≤ 8) ∧
    (∃ f : CanFrame, f.id = 3#8 ∧ f.payload = 1#8 :: 2#8 :: 3#8 :: [4#8, 5#8, 6#8, 7#8, 8#8] ∧ f.payload.length ≤ 8) ∧
    (∃ f : CanFrame, f.id = 4#8 ∧ f.payload = 0#8 :: 1#8 :: 2#8 :: 3#8 :: 4#8 :: 5#8 :: [] ∧ f.payload.length ≤ 8) ∧
    (∃ f : CanFrame, f.id = 7#8 ∧ f.payload.length ≤ 8) ∧
    (∃ f : CanFrame, f.id ≠ 2#8 ∧ f.id ≠ 3#8 ∧ f.id ≠ 4#8 ∧ f.id ≠ 7#8 ∧ f.payload.length ≤ 8) ∧
    (∃ f : CanFrame, f.id = 2#8 ∧ f.payload.length = 7) ∧ (∃ f : CanFrame, f.id = 3#8 ∧ f.payload.length = 2) ∧
    (∃ f : CanFrame, f.id = 4#8 ∧ f.payload.length = 5) ∧ (∃ f : CanFrame, f.payload.length = 9) ∧
    ∃ s : State, s.turns = .canReceive ⟨3#8, [1#8, 2#8, 3#8]⟩ :: [.engine] :=
  ⟨⟨⟨2#8, [1#8, 2#8, 3#8, 4#8, 5#8, 6#8, 7#8, 8#8]⟩, rfl, rfl, by decide⟩,
    ⟨⟨3#8, [1#8, 2#8, 3#8, 4#8, 5#8, 6#8, 7#8, 8#8]⟩, rfl, rfl, by decide⟩,
    ⟨⟨4#8, [0#8, 1#8, 2#8, 3#8, 4#8, 5#8]⟩, rfl, rfl, by decide⟩, ⟨⟨7#8, []⟩, rfl, by decide⟩,
    ⟨⟨8#8, [1#8]⟩, by decide⟩, ⟨⟨2#8, List.replicate 7 0#8⟩, by decide⟩, ⟨⟨3#8, [1#8, 2#8]⟩, by decide⟩,
    ⟨⟨4#8, List.replicate 5 0#8⟩, by decide⟩, ⟨⟨7#8, List.replicate 9 0#8⟩, by decide⟩, ⟨{ State.reset with turns := [.canReceive ⟨3#8, [1#8, 2#8, 3#8]⟩, .engine] }, rfl⟩⟩

end Sys2Proof.Tests
end

section
/-! The reset values of 10 R51. -/

namespace Sys2Proof.Machine

/-- Reset does not tell the axes apart (10 R51: "every field of both axes"). -/
@[simp] theorem State.reset_axis (m : Axis) : State.reset.axis m = AxisState.reset := by
  cases m with
  | zero => exact State.axis_zero State.reset
  | one => exact State.axis_one State.reset

/-- Settles O10: both axes reset to the one `AxisState.reset`; the rest is read off the reset state. -/
theorem resetValues : Obligations.ResetValues := by
  unfold Obligations.ResetValues
  exact ⟨State.reset_axis, rfl, rfl, rfl, rfl, rfl, rfl, rfl⟩

end Sys2Proof.Machine
end

section
/-! Runs of steps and of instructions, one at a time; the two axes commute (20 R93). -/

namespace Sys2Proof.Machine

open Sys2Proof.Claim

theorem coreRun_succ_of_next {M : Host.Core} {s u : M.State} (n : Nat) (h : M.step s = .next u) :
    M.run (n + 1) s = M.run n u := by
  rw [Host.Core.run, h]

theorem runSteps_succ_of_next {s u : State} (n : Nat) (h : step s = .next u) : runSteps (n + 1) s = runSteps n u :=
  coreRun_succ_of_next (M := Sys2Proof.core) n h

theorem execAll_cons_of_next {i : Instr} {s u : State} (is : List Instr) (h : exec i s = .next u) :
    execAll (i :: is) s = execAll is u := by
  rw [execAll, h]

theorem State.setAxis_comm (s : State) {m m' : Axis} (a a' : AxisState) (h : m ≠ m') :
    (s.setAxis m a).setAxis m' a' = (s.setAxis m' a').setAxis m a := by
  cases m <;> cases m'
  case zero.one | one.zero => rfl
  all_goals exact absurd rfl h

/-- Stage actions of two axes, one after the other: the second finds its own axis, its strap and `SPIN_PERIOD` as they were
before the first. -/
theorem execAll_stageInstr_pair (s : State) {m m' : Axis} (st st' : Stage) (h : m ≠ m') :
    execAll [stageInstr m st, stageInstr m' st'] s =
      .next ((s.setAxis m (stageAction hardware (s.rev m) s.spinPeriod st (s.axis m))).setAxis m'
        (stageAction hardware (s.rev m') s.spinPeriod st' (s.axis m'))) := by
  rw [execAll_cons_of_next _ (exec_stageInstr m st s), execAll_cons_of_next _ (exec_stageInstr m' st' _), execAll]
  rw [State.setAxis_rev, State.setAxis_spinPeriod, State.setAxis_axis_ne _ _ _ _ h.symm]

/-- Settles O27: in either order each action starts from its own axis of the given state, and the two replacements commute. -/
theorem axisActionsCommute : Obligations.AxisActionsCommute := by
  unfold Obligations.AxisActionsCommute
  intro s st st'
  have hne : Axis.zero ≠ Axis.one := by decide
  rw [execAll_stageInstr_pair s st st' hne, execAll_stageInstr_pair s st' st hne.symm, State.setAxis_comm s _ _ hne]

end Sys2Proof.Machine
end

section
/-! Host program order (20 R89): the turns of the host and of the port serve one queue. -/

namespace Sys2Proof.Machine

open Sys2Proof.Claim

/-- The turns that serve an access: those of the host and of the port (20 R89; entry 9). -/
def Turn.Serves (t : Turn) : Prop := t = .port ∨ ∃ w, t = .host w

theorem hostWords_cons (t : Turn) (ts : List Turn) : hostWords (t :: ts) = hostWords [t] ++ hostWords ts :=
  List.filterMap_append (l := [t])

/-- A serving turn is the port's alone or issues one access. -/
theorem Turn.Serves.count_port_cons {t : Turn} (ht : t.Serves) (ts : List Turn) :
    (t :: ts).count .port + (hostWords [t]).length = ts.count .port + 1 := by
  obtain rfl | ⟨w, rfl⟩ := ht
  · rw [List.count_cons_self]; rfl
  · rw [List.count_cons_of_ne (by simp)]; rfl

/-- A serving turn issues what it is given, if anything, behind the accesses that wait, and the port then serves one. -/
theorem Turn.Serves.runTurn_eq {t : Turn} (ht : t.Serves) (s : State) :
    runTurn t s = portTurn (issue (hostWords [t]) s) := by
  obtain rfl | ⟨w, rfl⟩ := ht
  · change portTurn s = portTurn { s with hostQueue := s.hostQueue ++ [] }
    rw [List.append_nil]
  · rfl

/-- All a step of a serving turn can do: nothing when no access waits, or serve the oldest one. -/
theorem Turn.Serves.step_cases {t : Turn} (ht : t.Serves) {s : State} {ts : List Turn} (hs : s.turns = t :: ts) :
    (s.hostQueue ++ hostWords [t] = [] ∧ step s = .next { s with hostQueue := [], turns := ts }) ∨
    (∃ v vs, s.hostQueue ++ hostWords [t] = v :: vs ∧
      step s = exec (decodeHost v) { s with hostQueue := vs, turns := ts }) := by
  have hstep : step s = portTurn (issue (hostWords [t]) { s with turns := ts }) := by
    rw [step_turn s t ts hs, ht.runTurn_eq]
  obtain ⟨hq, hport⟩ | ⟨v, vs, hq, hport⟩ := portTurn_cases (issue (hostWords [t]) { s with turns := ts })
  · rw [issue_hostQueue] at hq
    refine .inl ⟨hq, hstep.trans (hport.trans ?_)⟩
    rw [issue, hq]
  · exact .inr ⟨v, vs, hq, hstep.trans hport⟩

/-- What an access does to the block does not depend on the accesses that wait nor on the turns to come. -/
theorem exec_decodeHost_uniform (v : HostWord) (s : State) : ∃ u : State, ∀ ws ts,
    exec (decodeHost v) { s with hostQueue := ws, turns := ts } = .next { u with hostQueue := ws, turns := ts } := by
  obtain ⟨u, hu, -⟩ := exec_decodeHost_queue v s [] []
  refine ⟨u, fun ws ts => ?_⟩
  obtain ⟨u', hu', -, -, -, hws⟩ := exec_decodeHost_queue v s ws ts
  obtain rfl : u' = u := by simpa [hu'] using hu
  exact hws

/-- From `s` to `t` the first `k` of the accesses `ws` are run in their order, while the others wait in theirs and the turns
`rest` are to come. -/
def ServesFirst (k : Nat) (ws : List HostWord) (rest : List Turn) (s t : State) : Prop :=
  k ≤ ws.length ∧
    execAll ((ws.take k).map decodeHost) { s with turns := rest, hostQueue := ws.drop k } = .next t

theorem servesFirst_zero (s : State) : ServesFirst 0 s.hostQueue s.turns s s := ⟨Nat.zero_le _, rfl⟩

/-- An access served before the first `k` of `ws` makes the first `k + 1` of them with it. -/
theorem ServesFirst.cons {k : Nat} {v : HostWord} {ws : List HostWord} {rest : List Turn} {s u t : State}
    (hexec : ∀ ws ts,
      exec (decodeHost v) { s with hostQueue := ws, turns := ts } = .next { u with hostQueue := ws, turns := ts })
    (h : ServesFirst k ws rest u t) : ServesFirst (k + 1) (v :: ws) rest s t := by
  obtain ⟨hk, hrun⟩ := h
  refine ⟨Nat.succ_le_succ hk, ?_⟩
  rw [List.take_succ_cons, List.drop_succ_cons, List.map_cons, execAll_cons_of_next _ (hexec (ws.drop k) rest)]
  exact hrun

/-- Turns of the host and of the port serve the oldest accesses first, one a turn unless the port runs out of them. By
induction on the turns: the first one issues what it is given and serves the head of the queue, if there is one. -/
theorem runSteps_serves_first (rest : List Turn) (ts : List Turn) (hts : ∀ t ∈ ts, t.Serves) (s : State)
    (hs : s.turns = ts ++ rest) :
    ∃ k t, runSteps ts.length s = .next t ∧ ServesFirst k (s.hostQueue ++ hostWords ts) rest s t ∧
      (ts.count .port ≤ s.hostQueue.length → k = ts.length) := by
  induction ts generalizing s with
  | nil =>
    obtain rfl : s.turns = rest := hs
    refine ⟨0, s, rfl, ?_, fun _ => rfl⟩
    rw [show hostWords [] = [] from rfl, List.append_nil]
    exact servesFirst_zero s
  | cons t ts ih =>
    obtain ⟨ht, hts⟩ := List.forall_mem_cons.mp hts
    have hcount := ht.count_port_cons ts
    have hlen := List.length_append (as := s.hostQueue) (bs := hostWords [t])
    rw [hostWords_cons, ← List.append_assoc]
    obtain ⟨hq, hstep⟩ | ⟨v, vs, hq, hstep⟩ := ht.step_cases hs
    · obtain ⟨k, u, hrun, hserved, -⟩ := ih hts { s with hostQueue := [], turns := ts ++ rest } rfl
      rw [hq]
      refine ⟨k, u, (runSteps_succ_of_next _ hstep).trans hrun, hserved, fun hports => ?_⟩
      rw [hq, List.length_nil] at hlen
      omega
    · obtain ⟨u, hu⟩ := exec_decodeHost_uniform v s
      obtain ⟨k, w, hrun, hserved, hall⟩ := ih hts { u with hostQueue := vs, turns := ts ++ rest } rfl
      rw [hq]
      refine ⟨k + 1, w, (runSteps_succ_of_next _ (hstep.trans (hu vs (ts ++ rest)))).trans hrun, hserved.cons hu,
        fun hports => ?_⟩
      rw [hq, List.length_cons] at hlen
      rw [hall (show ts.count .port ≤ vs.length by omega), List.length_cons]

/-- Settles O7: the run of serving turns, with what `ServesFirst` says written out. -/
theorem hostAccessesKeepProgramOrder : Obligations.HostAccessesKeepProgramOrder := by
  unfold Obligations.HostAccessesKeepProgramOrder
  intro s ts rest hts hs
  obtain ⟨k, t, hrun, ⟨hk, hserved⟩, hall⟩ := runSteps_serves_first rest ts hts s hs
  exact ⟨k, t, hrun, hk, hserved, hall⟩

end Sys2Proof.Machine
end

section
/-! Stage words (30 R102): the match/mask pair of a bit, its being the highest set bit, and the stage it selects. -/

namespace Sys2Proof

/-- Bit `b` is set and no bit above it is. -/
def IsHighestBit (w : StageWord) (b : Fin 8) : Prop :=
  w.getLsbD b = true ∧ ∀ j : Fin 8, b < j → w.getLsbD j = false

/-- The stage of a bit of a stage word, in the order of the table of 30 R101. -/
def stageOfBit : Fin 8 → Stage
  | 7 => .cwSpinup
  | 6 => .cwCruise
  | 5 => .cwSpindown
  | 4 => .ccwSpinup
  | 3 => .ccwCruise
  | 2 => .ccwSpindown
  | 1 => .ccwCreep
  | 0 => .cwCreep

/-! ### The active stage is that of the highest set bit -/

theorem stageOfBit_injective : Function.Injective stageOfBit := by unfold Function.Injective; decide

theorem stageOfBit_ne_idle (b : Fin 8) : stageOfBit b ≠ .idle := by revert b; decide

theorem stageWord_eq_zero_iff (w : StageWord) : w = 0#8 ↔ ∀ j : Fin 8, w.getLsbD j = false := by
  constructor
  · rintro rfl j
    exact BitVec.getLsbD_zero
  · intro h
    refine BitVec.eq_of_getLsbD_eq fun j hj => ?_
    rw [h ⟨j, hj⟩, BitVec.getLsbD_zero]

theorem exists_isHighestBit {w : StageWord} (h : w ≠ 0#8) : ∃ b, IsHighestBit w b := by
  obtain ⟨i, hi⟩ : ∃ i : Fin 8, w.getLsbD i = true := by
    simpa [stageWord_eq_zero_iff] using h
  obtain ⟨b, hb, hmax⟩ := Set.exists_max_image {j : Fin 8 | w.getLsbD j = true} id (Set.toFinite _) ⟨i, hi⟩
  refine ⟨b, hb, fun j hj => Bool.eq_false_iff.mpr fun hset => ?_⟩
  exact absurd (hmax j hset) (not_le.mpr hj)

theorem IsHighestBit.decodeStage_eq {w : StageWord} {b : Fin 8} (h : IsHighestBit w b) :
    decodeStage w = stageOfBit b := by
  obtain ⟨hset, habove⟩ := h
  simp only [Fin.forall_fin_succ] at habove
  fin_cases b <;> simp_all [decodeStage, stageOfBit]

theorem decodeStage_zero : decodeStage 0#8 = .idle := rfl

theorem decodeStage_eq_stageOfBit_iff (w : StageWord) (b : Fin 8) :
    decodeStage w = stageOfBit b ↔ IsHighestBit w b := by
  refine ⟨fun h => ?_, IsHighestBit.decodeStage_eq⟩
  by_cases hw : w = 0#8
  · rw [hw, decodeStage_zero] at h
    exact absurd h.symm (stageOfBit_ne_idle b)
  · obtain ⟨b', hb'⟩ := exists_isHighestBit hw
    have : b' = b := stageOfBit_injective (hb'.decodeStage_eq.symm.trans h)
    exact this ▸ hb'

theorem decodeStage_eq_idle_iff (w : StageWord) : decodeStage w = .idle ↔ w = 0#8 := by
  refine ⟨fun h => ?_, fun h => h ▸ decodeStage_zero⟩
  by_contra hw
  obtain ⟨b, hb⟩ := exists_isHighestBit hw
  exact stageOfBit_ne_idle b (hb.decodeStage_eq.symm.trans h)

/-! ### The patterns: the mask of bit `b` has the bits from `b` up, its match bit `b` alone -/

theorem maskFrom_getLsbD (b j : Fin 8) : (0xFF#8 <<< b.val).getLsbD j = decide (b ≤ j) := by
  revert b j; decide

theorem matchBit_getLsbD (b j : Fin 8) : (1#8 <<< b.val).getLsbD j = decide (j = b) := by
  revert b j; decide

theorem and_maskFrom_eq_matchBit_iff (w : StageWord) (b : Fin 8) :
    w &&& 0xFF#8 <<< b.val = 1#8 <<< b.val ↔ IsHighestBit w b := by
  have bitwise : w &&& 0xFF#8 <<< b.val = 1#8 <<< b.val ↔
      ∀ j : Fin 8, (w.getLsbD j && decide (b ≤ j)) = decide (j = b) := by
    simp only [← maskFrom_getLsbD, ← matchBit_getLsbD, ← BitVec.getLsbD_and]
    exact ⟨fun h j => h ▸ rfl, fun h => BitVec.eq_of_getLsbD_eq fun j hj => h ⟨j, hj⟩⟩
  rw [bitwise]
  constructor
  · intro h
    refine ⟨by simpa using h b, fun j hj => ?_⟩
    simpa [hj.le, hj.ne'] using h j
  · rintro ⟨hset, habove⟩ j
    obtain hlt | rfl | hgt := lt_trichotomy j b
    · simp [hlt.not_ge, hlt.ne]
    · simp [hset]
    · rw [habove j hgt, Bool.false_and, decide_eq_false hgt.ne']

/-! ### The instruction of a stage word -/

theorem stageInstr_injective (m : Axis) : Function.Injective (stageInstr m) := by
  intro st st' h
  cases st <;> cases st' <;> cases h <;> rfl

theorem decode_stage_eq_ok_iff (m : Axis) (w : StageWord) (st : Stage) :
    decode (.stage m w) = .ok (stageInstr m st) ↔ decodeStage w = st := by
  rw [decode, Except.ok.injEq, (stageInstr_injective m).eq_iff]

theorem stagePattern_iff_decode (m : Axis) (w : StageWord) (b : Fin 8) :
    w &&& 0xFF#8 <<< b.val = 1#8 <<< b.val ↔ decode (.stage m w) = .ok (stageInstr m (stageOfBit b)) := by
  rw [and_maskFrom_eq_matchBit_iff, decode_stage_eq_ok_iff, decodeStage_eq_stageOfBit_iff]

theorem idlePattern_iff_decode (m : Axis) (w : StageWord) :
    w &&& 0xFF#8 = 0x00#8 ↔ decode (.stage m w) = .ok (stageInstr m .idle) := by
  rw [show 0xFF#8 = BitVec.allOnes 8 from rfl, BitVec.and_allOnes, decode_stage_eq_ok_iff, decodeStage_eq_idle_iff]

/-- Settles O3: the first eight pairs are those of bits 7 down to 0, the last is the idle word's. -/
theorem stageWordHighestBitWins : Obligations.StageWordHighestBitWins := by
  unfold Obligations.StageWordHighestBitWins
  intro m w
  exact ⟨stagePattern_iff_decode m w 7, stagePattern_iff_decode m w 6, stagePattern_iff_decode m w 5,
    stagePattern_iff_decode m w 4, stagePattern_iff_decode m w 3, stagePattern_iff_decode m w 2,
    stagePattern_iff_decode m w 1, stagePattern_iff_decode m w 0, idlePattern_iff_decode m w⟩

end Sys2Proof
end

section
/-! The handler (40 R135 to R140): the stage actions leave the host's registers of an axis as they are (10 R50), so the
hand-off copies what stood there before the tick. -/

namespace Sys2Proof.Machine

open Sys2Proof.Claim

/-! ### A stage action keeps the registers the host owns -/

theorem spinUpTick_sameHostOwned (c : Config) (rev : Bool) (sp : BitVec 8) (sgn : Int) (b : Nat) (a : AxisState) :
    a.sameHostOwned (spinUpTick c rev sp sgn b a) := by
  unfold spinUpTick
  obtain ⟨-, h⟩ | ⟨-, -, h⟩ | ⟨-, -, h⟩ := spinCountUp_cases c rev sp b
    (writeDuty c rev a.curSpinup (advance c (sgn * (c.ramp a.spinPointer.toNat : Int)) a)) <;>
    simp [h, AxisState.sameHostOwned]

theorem spinDownTick_sameHostOwned (c : Config) (rev : Bool) (sp : BitVec 8) (sgn : Int) (b : Nat) (a : AxisState) :
    a.sameHostOwned (spinDownTick c rev sp sgn b a) := by
  unfold spinDownTick
  obtain ⟨-, h⟩ | ⟨-, -, h⟩ | ⟨-, -, h⟩ := spinCountDown_cases c rev sp b
    (writeDuty c rev a.curSpindown (advance c (sgn * (c.ramp a.spinPointer.toNat : Int)) a)) <;>
    simp [h, AxisState.sameHostOwned]

theorem cruiseTick_sameHostOwned (c : Config) (rev : Bool) (sgn : Int) (b : Nat) (a : AxisState) :
    a.sameHostOwned (cruiseTick c rev sgn b a) := by
  obtain ⟨-, h⟩ | ⟨-, -, h⟩ | ⟨-, -, h⟩ := cruiseTick_cases c rev sgn b a <;>
    simp [h, AxisState.sameHostOwned]

theorem sameHostOwned_cwCreepCount_iff (c : Config) (rev : Bool) (a b : AxisState) :
    a.sameHostOwned (cwCreepCount c rev b) ↔ a.sameHostOwned b := by
  unfold cwCreepCount
  split <;> simp [AxisState.sameHostOwned]

theorem sameHostOwned_ccwCreepCount_iff (c : Config) (rev : Bool) (a b : AxisState) :
    a.sameHostOwned (ccwCreepCount c rev b) ↔ a.sameHostOwned b := by
  unfold ccwCreepCount
  split <;> simp [AxisState.sameHostOwned]

theorem cwCreep_sameHostOwned (c : Config) (rev : Bool) (a : AxisState) : a.sameHostOwned (cwCreep c rev a) := by
  obtain ⟨-, h⟩ | ⟨-, -, h⟩ | ⟨-, -, h⟩ := cwCreep_cases c rev a
  · simp [h, AxisState.sameHostOwned]
  · simp [h, AxisState.sameHostOwned]
  · rw [h, sameHostOwned_cwCreepCount_iff]
    simp [AxisState.sameHostOwned]

theorem ccwCreep_sameHostOwned (c : Config) (rev : Bool) (a : AxisState) : a.sameHostOwned (ccwCreep c rev a) := by
  obtain ⟨-, h⟩ | ⟨-, -, h⟩ | ⟨-, -, h⟩ := ccwCreep_cases c rev a
  · simp [h, AxisState.sameHostOwned]
  · simp [h, AxisState.sameHostOwned]
  · rw [h, sameHostOwned_ccwCreepCount_iff]
    simp [AxisState.sameHostOwned]

/-- The engine's half of 10 R50, for one axis. -/
theorem stageAction_sameHostOwned (c : Config) (rev : Bool) (sp : BitVec 8) (st : Stage) (a : AxisState) :
    a.sameHostOwned (stageAction c rev sp st a) := by
  cases st with
  | cwSpinup => exact spinUpTick_sameHostOwned c rev sp 1 7 a
  | cwCruise => exact cruiseTick_sameHostOwned c rev 1 6 a
  | cwSpindown => exact spinDownTick_sameHostOwned c rev sp 1 5 a
  | ccwSpinup => exact spinUpTick_sameHostOwned c rev sp (-1) 4 a
  | ccwCruise => exact cruiseTick_sameHostOwned c rev (-1) 3 a
  | ccwSpindown => exact spinDownTick_sameHostOwned c rev sp (-1) 2 a
  | ccwCreep => exact ccwCreep_sameHostOwned c rev a
  | cwCreep => exact cwCreep_sameHostOwned c rev a
  | idle => exact ⟨rfl, rfl, rfl, rfl, rfl, rfl, rfl, rfl⟩

/-! ### The hand-off -/

theorem commitBit_eq_committed (m : Axis) (s : State) : commitBit m s.commit = committed m s := by
  cases m <;> rfl

/-- The hand-off reads host registers only, so it may as well read them where the stage action has not run yet. -/
theorem AxisState.sameHostOwned.handoff_eq {a b : AxisState} (h : a.sameHostOwned b) :
    handoff b = { b with motionFlags := a.shadowFlags, cwCreepCurOp := a.curCreep, ccwCreepCurOp := a.curCreep } := by
  obtain ⟨hshadow, -, -, -, hcreep, -⟩ := h
  rw [handoff, hshadow, hcreep]

/-- Settles O28: `tickHandler_frame` is the frame; the decoded instruction runs the axis tick of its axis, and the hand-off
replaces three fields of its result. -/
theorem tickRunsBothAxesAndTheHandoff : Obligations.TickRunsBothAxesAndTheHandoff := by
  unfold Obligations.TickRunsBothAxesAndTheHandoff
  intro s
  refine ⟨tickHandler s, rfl, tickHandler_frame s, fun m i hi => ?_⟩
  obtain rfl : stageInstr m (decodeStage (s.axis m).motionFlags) = i := Except.ok.inj hi
  refine ⟨_, exec_stageInstr m _ s, fun hm => ?_, fun hm => ?_⟩ <;>
    rw [tickHandler_axis, commitBit_eq_committed, hm, State.setAxis_axis_self]
  · exact if_neg Bool.false_ne_true
  · rw [if_pos rfl]
    exact (stageAction_sameHostOwned hardware (s.rev m) s.spinPeriod _ (s.axis m)).handoff_eq

end Sys2Proof.Machine
end

section
/-! The stage actions (41 R155 to R163). Each tick moves the axis and writes its duties first and completes afterwards, so
what a claim says of a tick is read off the axis before the completion, and `Complete` turns `Stays` into `Ends`. -/

namespace Sys2Proof.Machine

open Sys2Proof.Claim

/-! ### The helpers, in the words of the claims -/

theorem offsetA_hardware (rev : Bool) : offsetA hardware rev = offset rev 1 := by cases rev <;> rfl

theorem offsetB_hardware (rev : Bool) : offsetB hardware rev = offset rev 2 := by cases rev <;> rfl

theorem dutiesAre_writeDuty (rev : Bool) (cur : BitVec 7) (a : AxisState) :
    DutiesAre rev cur.toNat (writeDuty hardware rev cur a) := by
  intro k
  match k with
  | 0 => exact duty_hardware cur a.phaseAngle.toNat
  | 1 => exact offsetA_hardware rev ▸ duty_hardware cur (a.phaseAngle.toNat + offsetA hardware rev)
  | 2 => exact offsetB_hardware rev ▸ duty_hardware cur (a.phaseAngle.toNat + offsetB hardware rev)

theorem phaseMoved_advance (d : Int) (a : AxisState) : PhaseMoved d a (advance hardware d a) := advance_hardware d a

theorem phaseMoved_complete_iff (c : Config) (rev : Bool) (b : Nat) (d : Int) (a y : AxisState) :
    PhaseMoved d a (complete c rev b y) ↔ PhaseMoved d a y := by
  rw [PhaseMoved, complete_phaseAngle, PhaseMoved]

theorem bitCleared_complete (c : Config) (rev : Bool) (b : Nat) (y : AxisState) (hb : b < 8) :
    BitCleared b y.motionFlags (complete c rev b y).motionFlags := by
  intro j
  rw [complete_motionFlags, clearStageBit_getLsbD _ _ _ hb]

/-- What `Complete` writes: the stage word and the compare registers. -/
theorem complete_frame (c : Config) (rev : Bool) (b : Nat) (y : AxisState) :
    complete c rev b y = { y with
      motionFlags := (complete c rev b y).motionFlags, pwmCcr0 := (complete c rev b y).pwmCcr0,
      pwmCcr1 := (complete c rev b y).pwmCcr1, pwmCcr2 := (complete c rev b y).pwmCcr2 } := by
  unfold complete
  split <;> rfl

/-- While a bit is left, `Complete` writes no compare register. -/
theorem dutiesKept_complete {c : Config} {rev : Bool} {b : Nat} {y : AxisState}
    (h : (complete c rev b y).motionFlags ≠ 0#8) : DutiesKept y (complete c rev b y) := by
  rw [complete_motionFlags] at h
  rw [complete, if_neg h]
  exact fun _ => rfl

/-- With the last bit gone, `Complete` writes the drop duties. -/
theorem dutiesAre_complete {rev : Bool} {b : Nat} {y : AxisState} (h : (complete hardware rev b y).motionFlags = 0#8) :
    DutiesAre rev y.curDrop.toNat (complete hardware rev b y) := by
  rw [complete_motionFlags] at h
  rw [complete, if_pos h]
  exact dutiesAre_writeDuty rev y.curDrop _

theorem dutiesAre_of_dutiesKept {rev : Bool} {cur : Nat} {a a' : AxisState} (hk : DutiesKept a a')
    (hp : a'.phaseAngle = a.phaseAngle) (h : DutiesAre rev cur a) : DutiesAre rev cur a' := by
  intro k
  rw [hk k, hp, h k]

/-- A stage that would go on ends when it is completed instead. -/
theorem ends_complete {rev : Bool} {cur b : Nat} {a y : AxisState} (hb : b < 8) (hdrop : y.curDrop = a.curDrop)
    (h : Stays rev cur a y) : Ends rev cur b a (complete hardware rev b y) := by
  obtain ⟨hflags, hduties⟩ := h
  refine ⟨hflags ▸ bitCleared_complete hardware rev b y hb, fun hne => ?_, fun hidle => ?_⟩
  · exact dutiesAre_of_dutiesKept (dutiesKept_complete hne) (complete_phaseAngle ..) hduties
  · exact hdrop ▸ dutiesAre_complete hidle

theorem endsEmpty_complete (rev : Bool) {b : Nat} (a : AxisState) (hb : b < 8) :
    EndsEmpty rev b a (complete hardware rev b a) :=
  ⟨complete_phaseAngle .., bitCleared_complete hardware rev b a hb, dutiesKept_complete, dutiesAre_complete⟩

/-! ### Sub-counts and step counters -/

theorem toNat_add_one_of_lt {n p : BitVec 8} (h : n.toNat + 1 < p.toNat) : (n + 1#8).toNat = n.toNat + 1 := by
  bv_omega

theorem toNat_sub_one_of_ne_zero {n : BitVec 32} (h : n ≠ 0#32) : (n - 1#32).toNat = n.toNat - 1 := by
  bv_omega

/-! ### The spin stages (41 R154, R155, R157, R158, R160) -/

section Spin

variable {rev : Bool} {sp : BitVec 8} {sgn : Int} {cur : BitVec 7} {b stop : Nat} {a : AxisState}

/-- The axis after a spin tick, its completion left out: moved by the ramp entry, the duties at `cur`, the sub-count and the
pointer as given. -/
def spinTicked (rev : Bool) (sgn : Int) (cur : BitVec 7) (sub : BitVec 8) (p : BitVec 6) (a : AxisState) : AxisState :=
  { writeDuty hardware rev cur (advance hardware (sgn * (hardware.ramp a.spinPointer.toNat : Int)) a) with
    spinSubcount := sub, spinPointer := p }

theorem phaseMoved_spinTicked (sub : BitVec 8) (p : BitVec 6) :
    PhaseMoved (sgn * (hardware.ramp a.spinPointer.toNat : Int)) a (spinTicked rev sgn cur sub p a) :=
  phaseMoved_advance _ a

theorem stays_spinTicked (sub : BitVec 8) (p : BitVec 6) :
    Stays rev cur.toNat a (spinTicked rev sgn cur sub p a) :=
  ⟨rfl, dutiesAre_writeDuty rev cur _⟩

theorem spinResult_of_wait {next : Nat} (hwait : a.spinSubcount.toNat + 1 < sp.toNat) :
    SpinResult rev sp.toNat sgn cur.toNat b next stop a
      (spinTicked rev sgn cur (a.spinSubcount + 1#8) a.spinPointer a) where
  phase := phaseMoved_spinTicked _ _
  waits _ := ⟨toNat_add_one_of_lt hwait, rfl, stays_spinTicked _ _⟩
  ramps hdue := absurd hwait (Nat.not_lt.mpr hdue)
  rest := rfl

theorem spinResult_of_ramp {p : BitVec 6} (hdue : sp.toNat ≤ a.spinSubcount.toNat + 1) (hp : p.toNat ≠ stop) :
    SpinResult rev sp.toNat sgn cur.toNat b p.toNat stop a (spinTicked rev sgn cur 0#8 p a) where
  phase := phaseMoved_spinTicked _ _
  waits hwait := absurd hwait (Nat.not_lt.mpr hdue)
  ramps _ := ⟨rfl, rfl, fun _ => stays_spinTicked _ _, fun hstop => absurd hstop hp⟩
  rest := rfl

theorem spinResult_of_end {p : BitVec 6} (hb : b < 8) (hdue : sp.toNat ≤ a.spinSubcount.toNat + 1) (hp : p.toNat = stop) :
    SpinResult rev sp.toNat sgn cur.toNat b p.toNat stop a
      (complete hardware rev b (spinTicked rev sgn cur 0#8 p a)) where
  phase := (phaseMoved_complete_iff ..).mpr (phaseMoved_spinTicked _ _)
  waits hwait := absurd hwait (Nat.not_lt.mpr hdue)
  ramps _ := ⟨complete_spinSubcount .., congrArg BitVec.toNat (complete_spinPointer ..), fun hne => absurd hp hne,
    fun _ => ends_complete hb rfl (stays_spinTicked _ _)⟩
  rest := by rw [complete_frame]; rfl

theorem spinResult_spinUpTick (rev : Bool) (sp : BitVec 8) (sgn : Int) {b : Nat} (a : AxisState) (hb : b < 8) :
    SpinResult rev sp.toNat sgn a.curSpinup.toNat b
      (if a.spinPointer.toNat < 33 then a.spinPointer.toNat + 1 else a.spinPointer.toNat) 33 a
      (spinUpTick hardware rev sp sgn b a) := by
  rw [← hardware_rampTop, ← pointerUp_toNat hardware a.spinPointer (by decide), spinUpTick]
  obtain ⟨hwait, h⟩ | ⟨hdue, hp, h⟩ | ⟨hdue, hp, h⟩ := spinCountUp_cases hardware rev sp b
    (writeDuty hardware rev a.curSpinup (advance hardware (sgn * (hardware.ramp a.spinPointer.toNat : Int)) a)) <;>
    rw [h]
  · exact spinResult_of_wait hwait
  · exact spinResult_of_ramp hdue hp
  · exact spinResult_of_end hb hdue hp

theorem spinResult_spinDownTick (rev : Bool) (sp : BitVec 8) (sgn : Int) {b : Nat} (a : AxisState) (hb : b < 8) :
    SpinResult rev sp.toNat sgn a.curSpindown.toNat b (a.spinPointer.toNat - 1) 0 a
      (spinDownTick hardware rev sp sgn b a) := by
  rw [← pointerDown_toNat, spinDownTick]
  obtain ⟨hwait, h⟩ | ⟨hdue, hp, h⟩ | ⟨hdue, hp, h⟩ := spinCountDown_cases hardware rev sp b
    (writeDuty hardware rev a.curSpindown (advance hardware (sgn * (hardware.ramp a.spinPointer.toNat : Int)) a)) <;>
    rw [h]
  · exact spinResult_of_wait hwait
  · exact spinResult_of_ramp hdue fun h0 => hp (BitVec.eq_of_toNat_eq h0)
  · exact spinResult_of_end hb hdue (congrArg BitVec.toNat hp)

end Spin

/-- Settles O20: `spinResult_spinUpTick` for the sign and the bit of either direction. -/
theorem spinUpAction : Obligations.SpinUpAction := by
  unfold Obligations.SpinUpAction
  intro s m
  exact ⟨⟨_, exec_stageInstr m .cwSpinup s, spinResult_spinUpTick _ _ 1 _ (by decide)⟩,
    ⟨_, exec_stageInstr m .ccwSpinup s, spinResult_spinUpTick _ _ (-1) _ (by decide)⟩⟩

/-- Settles O21: `spinResult_spinDownTick` for the sign and the bit of either direction. -/
theorem spinDownAction : Obligations.SpinDownAction := by
  unfold Obligations.SpinDownAction
  intro s m
  exact ⟨⟨_, exec_stageInstr m .cwSpindown s, spinResult_spinDownTick _ _ 1 _ (by decide)⟩,
    ⟨_, exec_stageInstr m .ccwSpindown s, spinResult_spinDownTick _ _ (-1) _ (by decide)⟩⟩

/-! ### The cruise stages (41 R156, R159) -/

section Cruise

variable {rev : Bool} {sgn : Int} {b : Nat} {a : AxisState}

/-- The axis after a cruise tick with a count left, its completion left out. -/
def cruiseTicked (rev : Bool) (sgn : Int) (a : AxisState) : AxisState :=
  { writeDuty hardware rev a.curCruise (advance hardware (sgn * (hardware.cruiseInc : Int)) a) with
    cruiseSteps := a.cruiseSteps - 1#32 }

theorem phaseMoved_cruiseTicked : PhaseMoved (sgn * 33) a (cruiseTicked rev sgn a) := phaseMoved_advance _ a

theorem stays_cruiseTicked : Stays rev a.curCruise.toNat a (cruiseTicked rev sgn a) :=
  ⟨rfl, dutiesAre_writeDuty rev a.curCruise _⟩

theorem cruiseResult_of_empty (hb : b < 8) (h0 : a.cruiseSteps = 0#32) :
    CruiseResult rev sgn b a (complete hardware rev b a) where
  empty _ := ⟨(complete_cruiseSteps ..).trans h0, endsEmpty_complete rev a hb⟩
  moves hne := absurd h0 hne
  rest := by rw [complete_frame]

theorem cruiseResult_of_move (hne : a.cruiseSteps ≠ 0#32) (hmore : a.cruiseSteps - 1#32 ≠ 0#32) :
    CruiseResult rev sgn b a (cruiseTicked rev sgn a) where
  empty h0 := absurd h0 hne
  moves _ := ⟨phaseMoved_cruiseTicked, toNat_sub_one_of_ne_zero hne, fun _ => stays_cruiseTicked,
    fun hlast => absurd hlast hmore⟩
  rest := rfl

theorem cruiseResult_of_last (hb : b < 8) (hne : a.cruiseSteps ≠ 0#32) (hlast : a.cruiseSteps - 1#32 = 0#32) :
    CruiseResult rev sgn b a (complete hardware rev b (cruiseTicked rev sgn a)) where
  empty h0 := absurd h0 hne
  moves _ := by
    rw [complete_cruiseSteps]
    exact ⟨(phaseMoved_complete_iff ..).mpr phaseMoved_cruiseTicked, toNat_sub_one_of_ne_zero hne,
      fun hmore => absurd hlast hmore, fun _ => ends_complete hb rfl stays_cruiseTicked⟩
  rest := by rw [complete_frame]; rfl

theorem cruiseResult_cruiseTick (rev : Bool) (sgn : Int) {b : Nat} (a : AxisState) (hb : b < 8) :
    CruiseResult rev sgn b a (cruiseTick hardware rev sgn b a) := by
  obtain ⟨h0, h⟩ | ⟨hne, hmore, h⟩ | ⟨hne, hlast, h⟩ := cruiseTick_cases hardware rev sgn b a <;> rw [h]
  · exact cruiseResult_of_empty hb h0
  · exact cruiseResult_of_move hne hmore
  · exact cruiseResult_of_last hb hne hlast

end Cruise

/-- Settles O22: `cruiseResult_cruiseTick` for the sign and the bit of either direction. -/
theorem cruiseAction : Obligations.CruiseAction := by
  unfold Obligations.CruiseAction
  intro s m
  exact ⟨⟨_, exec_stageInstr m .cwCruise s, cruiseResult_cruiseTick _ 1 _ (by decide)⟩,
    ⟨_, exec_stageInstr m .ccwCruise s, cruiseResult_cruiseTick _ (-1) _ (by decide)⟩⟩

/-! ### The creep stages (41 R161, R162), for either direction's counter and operating current -/

section Creep

variable {rev : Bool} {sgn : Int} {b : Nat} {steps : AxisState → BitVec 32} {op : AxisState → BitVec 7} {bumped : Bool}
  {a y : AxisState}

/-- What an active creep tick does whether or not it makes a step: `y` is the axis after it, its completion left out. -/
structure CreepTicked (rev : Bool) (steps : AxisState → BitVec 32) (op : AxisState → BitVec 7) (bumped : Bool)
    (a y : AxisState) : Prop where
  /-- The tick is active. -/
  active : steps a ≠ 0#32
  /-- The bump is made on the count on entry. -/
  bump : (op y).toNat = if (steps a).toNat ≤ 900 ∧ bumped = true then 100 else (op a).toNat
  /-- The duties are at the operating current. -/
  stays : Stays rev (op y).toNat a y
  /-- The drop current is still the one a completion uses. -/
  drop : y.curDrop = a.curDrop

theorem creepResult_of_empty (hb : b < 8) (h0 : steps a = 0#32)
    (hsteps : steps (complete hardware rev b a) = steps a) (hop : op (complete hardware rev b a) = op a) :
    CreepResult rev sgn b steps op bumped a (complete hardware rev b a) where
  empty _ := ⟨hsteps.trans h0, hop, complete_creepSubcount .., endsEmpty_complete rev a hb⟩
  bump hne := absurd h0 hne
  waits hne := absurd h0 hne
  moves hne := absurd h0 hne

theorem CreepTicked.creepResult_of_wait (hy : CreepTicked rev steps op bumped a y)
    (hwait : a.creepSubcount.toNat + 1 < a.creepPeriod.toNat) (hsub : y.creepSubcount = a.creepSubcount + 1#8)
    (hphase : y.phaseAngle = a.phaseAngle) (hsteps : steps y = steps a) :
    CreepResult rev sgn b steps op bumped a y where
  empty h0 := absurd h0 hy.active
  bump _ := hy.bump
  waits _ _ := ⟨hsub ▸ toNat_add_one_of_lt hwait, hphase, hsteps, hy.stays⟩
  moves _ hdue := absurd hwait (Nat.not_lt.mpr hdue)

/-- A step of the creep counts first: `y` has the new count, and is completed if that is 0. -/
theorem CreepTicked.creepResult_of_step (hy : CreepTicked rev steps op bumped a y) (hb : b < 8)
    (hdue : a.creepPeriod.toNat ≤ a.creepSubcount.toNat + 1) (hsub : y.creepSubcount = 0#8) (hphase : PhaseMoved sgn a y)
    (hsteps : steps y = steps a - 1#32) (hstepsKept : steps (complete hardware rev b y) = steps y)
    (hopKept : op (complete hardware rev b y) = op y) :
    CreepResult rev sgn b steps op bumped a (if steps y = 0#32 then complete hardware rev b y else y) := by
  have hcount : (steps y).toNat = (steps a).toNat - 1 := hsteps ▸ toNat_sub_one_of_ne_zero hy.active
  refine ⟨fun h0 => absurd h0 hy.active, fun _ => ?_, fun _ hwait => absurd hwait (Nat.not_lt.mpr hdue), fun _ _ => ?_⟩ <;>
    split
  · exact hopKept ▸ hy.bump
  · exact hy.bump
  next hlast =>
    rw [hstepsKept, hopKept]
    exact ⟨(complete_creepSubcount ..).trans hsub, (phaseMoved_complete_iff ..).mpr hphase, hcount,
      fun hmore => absurd hlast hmore, fun _ => ends_complete hb hy.drop hy.stays⟩
  next hmore => exact ⟨hsub, hphase, hcount, fun _ => hy.stays, fun hlast => absurd hlast hmore⟩

end Creep

theorem bumpTest_iff {n : Nat} {enabled : Bool} :
    (decide (n ≤ hardware.bumpWindow) && enabled) = true ↔ n ≤ 900 ∧ enabled = true := by
  rw [Bool.and_eq_true, decide_eq_true_eq, hardware_bumpWindow]

/-! #### The CCW creep -/

/-- What the bump of the CCW creep writes: the operating current, and only when it applies. -/
theorem bumpCcwCreep_hardware (a : AxisState) : ∃ cur : BitVec 7,
    bumpCcwCreep hardware a = { a with ccwCreepCurOp := cur } ∧
    cur.toNat = if a.ccwCreepSteps.toNat ≤ 900 ∧ a.bump.getLsbD 1 = true then 100 else a.ccwCreepCurOp.toNat := by
  by_cases h : a.ccwCreepSteps.toNat ≤ 900 ∧ a.bump.getLsbD 1 = true
  · exact ⟨fullCurrent hardware, if_pos (bumpTest_iff.mpr h), (if_pos h).symm⟩
  · exact ⟨a.ccwCreepCurOp, if_neg (mt bumpTest_iff.mp h), (if_neg h).symm⟩

theorem ccwCreepCount_eq (c : Config) (rev : Bool) (x : AxisState) {y : AxisState}
    (hy : y = { x with ccwCreepSteps := x.ccwCreepSteps - 1#32 }) :
    ccwCreepCount c rev x = if y.ccwCreepSteps = 0#32 then complete c rev 1 y else y := by
  subst hy; rfl

theorem creepResult_ccwCreep (rev : Bool) (a : AxisState) :
    CreepResult rev (-1) 1 AxisState.ccwCreepSteps AxisState.ccwCreepCurOp (a.bump.getLsbD 1) a
      (ccwCreep hardware rev a) := by
  obtain ⟨cur, hbump, hcur⟩ := bumpCcwCreep_hardware a
  obtain ⟨h0, h⟩ | ⟨hne, hwait, h⟩ | ⟨hne, hdue, h⟩ := ccwCreep_cases hardware rev a <;> rw [h]
  · exact creepResult_of_empty (by decide) h0 (complete_ccwCreepSteps ..) (complete_ccwCreepCurOp ..)
  · rw [hbump]
    exact CreepTicked.creepResult_of_wait ⟨hne, hcur, ⟨rfl, dutiesAre_writeDuty rev cur _⟩, rfl⟩ hwait rfl rfl rfl
  · rw [hbump, ccwCreepCount_eq _ _ _ rfl]
    exact CreepTicked.creepResult_of_step ⟨hne, hcur, ⟨rfl, dutiesAre_writeDuty rev cur _⟩, rfl⟩ (by decide) hdue rfl
      (phaseMoved_advance (-1) a) rfl (complete_ccwCreepSteps ..) (complete_ccwCreepCurOp ..)

theorem ccwCreep_frame (rev : Bool) (a : AxisState) :
    ccwCreep hardware rev a = { a with
      phaseAngle := (ccwCreep hardware rev a).phaseAngle, motionFlags := (ccwCreep hardware rev a).motionFlags,
      creepSubcount := (ccwCreep hardware rev a).creepSubcount, ccwCreepSteps := (ccwCreep hardware rev a).ccwCreepSteps,
      ccwCreepCurOp := (ccwCreep hardware rev a).ccwCreepCurOp, pwmCcr0 := (ccwCreep hardware rev a).pwmCcr0,
      pwmCcr1 := (ccwCreep hardware rev a).pwmCcr1, pwmCcr2 := (ccwCreep hardware rev a).pwmCcr2 } := by
  obtain ⟨cur, hbump, -⟩ := bumpCcwCreep_hardware a
  obtain ⟨-, h⟩ | ⟨-, -, h⟩ | ⟨-, -, h⟩ := ccwCreep_cases hardware rev a <;> rw [h]
  · rw [complete_frame]
  · rw [hbump]; rfl
  · rw [hbump, ccwCreepCount_eq _ _ _ rfl]
    split
    · rw [complete_frame]; rfl
    · rfl

/-- Settles O23: `creepResult_ccwCreep` and `ccwCreep_frame`. -/
theorem ccwCreepAction : Obligations.CcwCreepAction := by
  unfold Obligations.CcwCreepAction
  intro s m
  exact ⟨_, exec_stageInstr m .ccwCreep s, creepResult_ccwCreep _ _, ccwCreep_frame _ _⟩

/-! #### The CW creep -/

/-- What the bump of the CW creep writes: the operating current, and only when it applies. -/
theorem bumpCwCreep_hardware (a : AxisState) : ∃ cur : BitVec 7,
    bumpCwCreep hardware a = { a with cwCreepCurOp := cur } ∧
    cur.toNat = if a.cwCreepSteps.toNat ≤ 900 ∧ a.bump.getLsbD 0 = true then 100 else a.cwCreepCurOp.toNat := by
  by_cases h : a.cwCreepSteps.toNat ≤ 900 ∧ a.bump.getLsbD 0 = true
  · exact ⟨fullCurrent hardware, if_pos (bumpTest_iff.mpr h), (if_pos h).symm⟩
  · exact ⟨a.cwCreepCurOp, if_neg (mt bumpTest_iff.mp h), (if_neg h).symm⟩

theorem cwCreepCount_eq (c : Config) (rev : Bool) (x : AxisState) {y : AxisState}
    (hy : y = { x with cwCreepSteps := x.cwCreepSteps - 1#32 }) :
    cwCreepCount c rev x = if y.cwCreepSteps = 0#32 then complete c rev 0 y else y := by
  subst hy; rfl

theorem creepResult_cwCreep (rev : Bool) (a : AxisState) :
    CreepResult rev 1 0 AxisState.cwCreepSteps AxisState.cwCreepCurOp (a.bump.getLsbD 0) a
      (cwCreep hardware rev a) := by
  obtain ⟨cur, hbump, hcur⟩ := bumpCwCreep_hardware a
  obtain ⟨h0, h⟩ | ⟨hne, hwait, h⟩ | ⟨hne, hdue, h⟩ := cwCreep_cases hardware rev a <;> rw [h]
  · exact creepResult_of_empty (by decide) h0 (complete_cwCreepSteps ..) (complete_cwCreepCurOp ..)
  · rw [hbump]
    exact CreepTicked.creepResult_of_wait ⟨hne, hcur, ⟨rfl, dutiesAre_writeDuty rev cur _⟩, rfl⟩ hwait rfl rfl rfl
  · rw [hbump, cwCreepCount_eq _ _ _ rfl]
    exact CreepTicked.creepResult_of_step ⟨hne, hcur, ⟨rfl, dutiesAre_writeDuty rev cur _⟩, rfl⟩ (by decide) hdue rfl
      (phaseMoved_advance 1 a) rfl (complete_cwCreepSteps ..) (complete_cwCreepCurOp ..)

theorem cwCreep_frame (rev : Bool) (a : AxisState) :
    cwCreep hardware rev a = { a with
      phaseAngle := (cwCreep hardware rev a).phaseAngle, motionFlags := (cwCreep hardware rev a).motionFlags,
      creepSubcount := (cwCreep hardware rev a).creepSubcount, cwCreepSteps := (cwCreep hardware rev a).cwCreepSteps,
      cwCreepCurOp := (cwCreep hardware rev a).cwCreepCurOp, pwmCcr0 := (cwCreep hardware rev a).pwmCcr0,
      pwmCcr1 := (cwCreep hardware rev a).pwmCcr1, pwmCcr2 := (cwCreep hardware rev a).pwmCcr2 } := by
  obtain ⟨cur, hbump, -⟩ := bumpCwCreep_hardware a
  obtain ⟨-, h⟩ | ⟨-, -, h⟩ | ⟨-, -, h⟩ := cwCreep_cases hardware rev a <;> rw [h]
  · rw [complete_frame]
  · rw [hbump]; rfl
  · rw [hbump, cwCreepCount_eq _ _ _ rfl]
    split
    · rw [complete_frame]; rfl
    · rfl

/-- Settles O24: `creepResult_cwCreep` and `cwCreep_frame`. -/
theorem cwCreepAction : Obligations.CwCreepAction := by
  unfold Obligations.CwCreepAction
  intro s m
  exact ⟨_, exec_stageInstr m .cwCreep s, creepResult_cwCreep _ _, cwCreep_frame _ _⟩

/-- Settles O25: the action of `IDLE` is the identity, and an axis replaced by itself is no change (41 R163). -/
theorem idleAction : Obligations.IdleAction := by
  unfold Obligations.IdleAction
  intro s m
  have hidle : stageAction hardware (s.rev m) s.spinPeriod .idle (s.axis m) = s.axis m := rfl
  have hexec := exec_stageInstr m .idle s
  rwa [hidle, State.setAxis_self] at hexec

end Sys2Proof.Machine
end

section
/-! The register banks (30 R107 to R109): each bank is a list of registers in the order of their addresses. A read of the port
gives the entry at the address, a register write replaces one entry. -/

namespace Sys2Proof.Machine

open Sys2Proof.Claim

/-- The registers of an axis bank, in the order of their offsets (30 R109); the base address plays no part in them. -/
def axisRegisters (a : AxisState) : List Data := (axisTable 0x40#7 a).map Prod.snd

/-- The registers of the global bank, in the order of their numbers (30 R108). -/
def globalRegisters (s : State) : List Data := ((registerTable s).take 5).map Prod.snd

@[simp] theorem axisRegisters_length (a : AxisState) : (axisRegisters a).length = 21 := rfl

@[simp] theorem globalRegisters_length (s : State) : (globalRegisters s).length = 5 := rfl

/-! ### What a read of a bank gives -/

theorem axisRegRead_eq_getD (a : AxisState) (r : BitVec 5) : axisRegRead a r = (axisRegisters a).getD r.toNat 0 := by
  obtain ⟨⟨k, hk⟩⟩ := r
  interval_cases k <;> rfl

theorem globalRegRead_eq_getD (s : State) (r : BitVec 6) : globalRegRead s r = (globalRegisters s).getD r.toNat 0 := by
  obtain ⟨⟨k, hk⟩⟩ := r
  interval_cases k <;> rfl

/-! ### The register map is made of the banks -/

/-- The registers of a bank with their addresses, the first at `at0`. -/
def bankTable (at0 : HostAddr) (regs : List Data) : List (HostAddr × Data) :=
  regs.zipIdx.map fun p => (at0 + BitVec.ofNat 7 p.2, p.1)

theorem registerTable_eq_banks (s : State) :
    registerTable s = bankTable 0x00#7 (globalRegisters s) ++ bankTable (base .zero) (axisRegisters s.ax0) ++
      bankTable (base .one) (axisRegisters s.ax1) := rfl

/-- The addresses of an axis bank, as the claims write them (30 R109). -/
theorem base_add (m : Axis) (r : BitVec 5) : base m + r.setWidth 7 = axisAddr m r := by
  cases m <;> revert r <;> decide

/-- The addresses of the global bank, as the claims write them (30 R108). -/
theorem setWidth_eq_globalAddr (r : BitVec 6) : r.setWidth 7 = globalAddr r := by
  revert r; decide

/-- A bank holds its registers at the addresses of their numbers, if a number of `w` bits names each of them. -/
theorem mem_bankTable_iff {w : Nat} {at0 addr : HostAddr} {regs : List Data} {v : Data} (hfit : regs.length ≤ 2 ^ w) :
    (addr, v) ∈ bankTable at0 regs ↔
      ∃ r : BitVec w, r.toNat < regs.length ∧ at0 + r.setWidth 7 = addr ∧ regs.getD r.toNat 0 = v := by
  simp only [bankTable, List.mem_map, Prod.exists, List.mem_zipIdx_iff_getElem?, Prod.mk.injEq]
  constructor
  · rintro ⟨v, k, hk, rfl, rfl⟩
    obtain ⟨hlt, -⟩ := List.getElem?_eq_some_iff.mp hk
    have hnum : (BitVec.ofNat w k).toNat = k := Nat.mod_eq_of_lt (hlt.trans_le hfit)
    refine ⟨BitVec.ofNat w k, ?_, ?_, ?_⟩
    · rwa [hnum]
    · rw [← BitVec.ofNat_toNat, hnum]
    · rw [hnum, List.getD_eq_getElem?_getD, hk, Option.getD_some]
  · rintro ⟨r, hr, rfl, rfl⟩
    refine ⟨_, r.toNat, List.getElem?_eq_getElem hr, ?_, ?_⟩
    · rw [BitVec.ofNat_toNat]
    · rw [List.getD_eq_getElem _ _ hr]

theorem mem_globalBank_iff {s : State} {addr : HostAddr} {v : Data} :
    (addr, v) ∈ bankTable 0x00#7 (globalRegisters s) ↔
      ∃ r : BitVec 6, r.toNat < 5 ∧ globalAddr r = addr ∧ globalRegRead s r = v := by
  rw [mem_bankTable_iff (w := 6) (by rw [globalRegisters_length]; decide)]
  simp only [BitVec.zero_add, setWidth_eq_globalAddr, globalRegRead_eq_getD, globalRegisters_length]

theorem mem_axisBank_iff {m : Axis} {a : AxisState} {addr : HostAddr} {v : Data} :
    (addr, v) ∈ bankTable (base m) (axisRegisters a) ↔
      ∃ r : BitVec 5, r.toNat < 21 ∧ axisAddr m r = addr ∧ axisRegRead a r = v := by
  rw [mem_bankTable_iff (w := 5) (by rw [axisRegisters_length]; decide)]
  simp only [base_add, axisRegRead_eq_getD, axisRegisters_length]

theorem exists_axis_iff (P : Axis → Prop) : (∃ m, P m) ↔ P .zero ∨ P .one := by
  constructor
  · rintro ⟨m, h⟩
    cases m with
    | zero => exact .inl h
    | one => exact .inr h
  · rintro (h | h) <;> exact ⟨_, h⟩

theorem mem_registerTable_iff (s : State) (addr : HostAddr) (v : Data) :
    (addr, v) ∈ registerTable s ↔
      (∃ r : BitVec 6, r.toNat < 5 ∧ globalAddr r = addr ∧ globalRegRead s r = v) ∨
      (∃ (m : Axis) (r : BitVec 5), r.toNat < 21 ∧ axisAddr m r = addr ∧ axisRegRead (s.axis m) r = v) := by
  rw [exists_axis_iff, registerTable_eq_banks, List.mem_append, List.mem_append, mem_globalBank_iff, mem_axisBank_iff,
    mem_axisBank_iff, or_assoc, State.axis_zero, State.axis_one]

/-! ### What a read of the port gives (42 R181) -/

theorem regRead_of_mem_registerTable {s : State} {addr : HostAddr} {v : Data} (h : (addr, v) ∈ registerTable s) :
    regRead s addr = v := by
  obtain ⟨r, -, rfl, rfl⟩ | ⟨m, r, -, rfl, rfl⟩ := (mem_registerTable_iff s addr v).mp h
  · exact regRead_globalAddr s r
  · exact regRead_axisAddr s m r

/-- Every address of the 128 is an assigned one, or reads 0 (30 R111). -/
theorem mem_registerTable_or_regRead_eq_zero (s : State) (addr : HostAddr) :
    (addr, regRead s addr) ∈ registerTable s ∨ regRead s addr = 0 := by
  rw [mem_registerTable_iff]
  cases hbank : addr.getLsbD 6 with
  | false =>
    obtain ⟨r, rfl⟩ : ∃ r, globalAddr r = addr := ⟨_, globalAddr_extract addr hbank⟩
    rw [regRead_globalAddr]
    by_cases hr : r.toNat < 5
    · exact .inl (.inl ⟨r, hr, rfl, rfl⟩)
    · exact .inr (by rw [globalRegRead_eq_getD, List.getD_eq_default _ _ (not_lt.mp hr)])
  | true =>
    obtain ⟨m, r, rfl⟩ : ∃ m r, axisAddr m r = addr := ⟨_, _, axisAddr_extract addr hbank⟩
    rw [regRead_axisAddr]
    by_cases hr : r.toNat < 21
    · exact .inl (.inr ⟨m, r, hr, rfl, rfl⟩)
    · exact .inr (by rw [axisRegRead_eq_getD, List.getD_eq_default _ _ (not_lt.mp hr)])

theorem exec_rd (addr : HostAddr) (s : State) : exec (.rd addr) s = .next { s with readData := some (regRead s addr) } :=
  rfl

/-- Settles O46: `RD` returns what the port reads, which is the table's value at an assigned address and 0 at any other. -/
theorem readReturnsTheRegister : Obligations.ReadReturnsTheRegister := by
  unfold Obligations.ReadReturnsTheRegister
  intro s addr
  rw [exec_rd]
  refine ⟨fun v hmem => by rw [regRead_of_mem_registerTable hmem], fun hnot => ?_⟩
  obtain hmem | hzero := mem_registerTable_or_regRead_eq_zero s addr
  · exact absurd (List.mem_map_of_mem hmem) hnot
  · rw [hzero]

end Sys2Proof.Machine
end

section
/-! The values the register writes store (30 R110), and one rule for a write to each bank: its value and its frame. -/

namespace Sys2Proof.Machine

open Sys2Proof.Claim

/-! ### The stored values, as a read returns them (30 R110) -/

/-- `data[n-1:0]` read back is the data masked. -/
theorem zext32_lowBits {n : Nat} (hn : n ≤ 32) (d : Data) : zext32 (lowBits n d) = d &&& BitVec.ofNat 32 (2 ^ n - 1) := by
  have hfit : 2 ^ n - 1 < 2 ^ 32 := (Nat.sub_lt n.two_pow_pos one_pos).trans_le (Nat.pow_le_pow_right (by decide) hn)
  apply BitVec.eq_of_toNat_eq
  rw [zext32_toNat _ hn, lowBits_toNat, BitVec.toNat_and, BitVec.toNat_ofNat, Nat.mod_eq_of_lt hfit,
    Nat.and_two_pow_sub_one_eq_mod]

/-- A 32-bit register takes the data whole, and a read gives it whole. -/
theorem zext32_lowBits_32 (d : Data) : zext32 (lowBits 32 d) = d :=
  (zext32_lowBits le_rfl d).trans BitVec.and_allOnes

theorem zext32_clampCurrent (d : Data) : zext32 (clampCurrent d) = BitVec.ofNat 32 (min (d.toNat % 256) 100) := by
  apply BitVec.eq_of_toNat_eq
  rw [zext32_toNat _ (by decide), clampCurrent_toNat, BitVec.toNat_ofNat]
  omega

theorem lowBits_getLsbD {n i : Nat} (d : Data) (hi : i < n) : (lowBits n d).getLsbD i = d.getLsbD i := by
  simp [lowBits, hi]

/-- `TIM_CTRL` is its two bits (30 R108). -/
theorem timCtrlWord_getLsbD (w : BitVec 2) : timCtrlWord (w.getLsbD 0) (w.getLsbD 1) = w := by
  revert w; decide

/-- `CEN` and `UIE` are `data[1:0]` (42 R182). -/
theorem zext32_timCtrlWord_data (d : Data) : zext32 (timCtrlWord (d.getLsbD 0) (d.getLsbD 1)) = d &&& 0x3#32 := by
  rw [← lowBits_getLsbD d (n := 2) (by decide), ← lowBits_getLsbD d (n := 2) (by decide), timCtrlWord_getLsbD]
  exact zext32_lowBits (by decide) d

/-- What `WR COMMIT` leaves: the bits that stood there and those of the data (42 R184). -/
theorem zext32_commit (commit : BitVec 2) (d : Data) :
    zext32 (commit ||| lowBits 2 d) = commit.setWidth 32 ||| (d &&& 0x3#32) := by
  rw [zext32, BitVec.setWidth_or]
  exact congrArg (commit.setWidth 32 ||| ·) (zext32_lowBits (by decide) d)

/-! ### A write replaces one entry of a bank -/

theorem getD_set_of_ne {regs : List Data} {k j : Nat} (v : Data) (h : j ≠ k) : (regs.set k v).getD j 0 = regs.getD j 0 := by
  rw [List.getD_eq_getElem?_getD, List.getElem?_set_ne h.symm, ← List.getD_eq_getElem?_getD]

theorem getD_set_self {regs : List Data} {k : Nat} (v : Data) (h : k < regs.length) : (regs.set k v).getD k 0 = v := by
  rw [List.getD_eq_getElem?_getD, List.getElem?_set_self h, Option.getD_some]

/-- A write row of an axis bank: it replaces the axis by one whose bank differs in the row's register alone. -/
theorem writes_axisRegister {s : State} {i : Instr} {m : Axis} {a : AxisState} {x v : Data} (r : BitVec 5)
    (hexec : exec i s = .next (s.setAxis m a)) (hr : r.toNat < 21) (hstored : x = v)
    (hregs : axisRegisters a = (axisRegisters (s.axis m)).set r.toNat x) :
    Writes s i (base m + r.setWidth 7) v := by
  rw [base_add, ← hstored]
  refine ⟨_, hexec, ?_, regRead_setAxis s m a r fun q hq => ?_, ?_⟩
  · rw [regRead_axisAddr, State.setAxis_axis_self, axisRegRead_eq_getD, hregs, getD_set_self x hr]
  · rw [axisRegRead_eq_getD, axisRegRead_eq_getD, hregs, getD_set_of_ne x (BitVec.toNat_ne.mp hq)]
  · cases m <;> exact ⟨rfl, rfl, rfl, rfl, rfl, rfl, rfl⟩

/-- A write row of the global bank: what it changes is in the bank, and there it replaces the row's register alone. -/
theorem writes_globalRegister {s t : State} {i : Instr} {x v : Data} (r : BitVec 6) (hexec : exec i s = .next t)
    (hbank : t = { s with
      cen := t.cen, uie := t.uie, timPeriod := t.timPeriod, commit := t.commit, spinPeriod := t.spinPeriod })
    (hr : r.toNat < 5) (hstored : x = v) (hregs : globalRegisters t = (globalRegisters s).set r.toNat x) :
    Writes s i (r.setWidth 7) v := by
  rw [setWidth_eq_globalAddr, ← hstored]
  refine ⟨t, hexec, ?_, regRead_global s t r (fun m => ?_) fun q hq => ?_, ?_⟩
  · rw [regRead_globalAddr, globalRegRead_eq_getD, hregs, getD_set_self x hr]
  · rw [hbank]; cases m <;> rfl
  · rw [globalRegRead_eq_getD, globalRegRead_eq_getD, hregs, getD_set_of_ne x (BitVec.toNat_ne.mp hq)]
  · rw [hbank]; exact ⟨rfl, rfl, rfl, rfl, rfl, rfl, rfl⟩

end Sys2Proof.Machine
end

section
/-! The rows of the register writes (42 R182 to R196), each by the rule of its bank: running the row replaces the axis or the
global register, and the bank is then the old one with that entry set to the stored value. -/

namespace Sys2Proof

open Sys2Proof.Machine Sys2Proof.Claim

/-- Settles O47: each row replaces its register of the global bank by the data's low bits, `COMMIT` by the OR with them. -/
theorem globalWrites : Obligations.GlobalWrites := by
  unfold Obligations.GlobalWrites
  intro s d
  have low8 := zext32_lowBits (n := 8) (by decide) d
  have low16 := zext32_lowBits (n := 16) (by decide) d
  exact ⟨writes_globalRegister 0x00#6 rfl rfl (by decide) (zext32_timCtrlWord_data d) rfl,
    writes_globalRegister 0x01#6 rfl rfl (by decide) low16 rfl,
    writes_globalRegister 0x03#6 rfl rfl (by decide) (zext32_commit s.commit d) rfl,
    writes_globalRegister 0x04#6 rfl rfl (by decide) low8 rfl⟩

/-- Settles O48: each row replaces its register of the axis bank by the data's low bits. -/
theorem axisWrites : Obligations.AxisWrites := by
  unfold Obligations.AxisWrites
  intro s m d
  have low2 := zext32_lowBits (n := 2) (by decide) d
  have low8 := zext32_lowBits (n := 8) (by decide) d
  have whole := zext32_lowBits_32 d
  exact ⟨writes_axisRegister 0x00#5 rfl (by decide) low8 rfl, writes_axisRegister 0x05#5 rfl (by decide) whole rfl,
    writes_axisRegister 0x06#5 rfl (by decide) whole rfl, writes_axisRegister 0x07#5 rfl (by decide) whole rfl,
    writes_axisRegister 0x0D#5 rfl (by decide) low8 rfl, writes_axisRegister 0x0E#5 rfl (by decide) low2 rfl⟩

/-- Settles O49: each row replaces its register of the axis bank by the clamped low byte. -/
theorem currentWrites : Obligations.CurrentWrites := by
  unfold Obligations.CurrentWrites
  intro s m d
  have clamped := zext32_clampCurrent d
  exact ⟨writes_axisRegister 0x08#5 rfl (by decide) clamped rfl, writes_axisRegister 0x09#5 rfl (by decide) clamped rfl,
    writes_axisRegister 0x0A#5 rfl (by decide) clamped rfl, writes_axisRegister 0x0B#5 rfl (by decide) clamped rfl,
    writes_axisRegister 0x0C#5 rfl (by decide) clamped rfl⟩

end Sys2Proof
end

section
/-! Writes to the read-only and the reserved addresses (42 R197). -/

namespace Sys2Proof

open Sys2Proof.Machine Sys2Proof.Claim

theorem isWrite_iff (w : HostWord) (addr : HostAddr) (d : Data) : IsWrite w addr d ↔ w = writeWord addr d := by
  rw [← BitVec.toNat_inj, writeWord_toNat, IsWrite]

/-- An address with no write row is the address of `WR.IGNORED`, whichever bank it is in. -/
theorem decodeHost_writeWord_ignored {addr : HostAddr} (hglobal : writableGlobal addr = false)
    (haxis : writableAxis addr = false) (d : Data) : decodeHost (writeWord addr d) = .wrIgnored addr d := by
  rw [decodeHost_writeWord]
  cases hbank : addr.getLsbD 6 with
  | false => exact decodeGlobalWrite_ignored addr d hbank hglobal
  | true => exact decodeAxisWrite_ignored addr d hbank haxis

/-- The read-only addresses (R197: `TIM_STATUS` and the offsets 0x01 to 0x04 and 0x0F to 0x14 of an axis bank) and the
reserved ones have no write row. -/
theorem not_writable_of_readOnly_or_reserved {addr : HostAddr}
    (h : addr = 0x02#7 ∨ (0x05#7 ≤ addr ∧ addr ≤ 0x3F#7) ∨
      (∃ m : Axis, base m + 0x01#7 ≤ addr ∧ addr ≤ base m + 0x04#7) ∨
      (∃ m : Axis, base m + 0x0F#7 ≤ addr ∧ addr ≤ base m + 0x1F#7)) :
    writableGlobal addr = false ∧ writableAxis addr = false := by
  simp only [exists_axis_iff] at h
  revert addr
  decide

/-- Settles O50: the word's address has no write row, and `WR.IGNORED` gives its state back. -/
theorem otherWritesAreIgnored : Obligations.OtherWritesAreIgnored := by
  unfold Obligations.OtherWritesAreIgnored
  intro s w addr d hw haddr
  obtain rfl := (isWrite_iff w addr d).mp hw
  obtain ⟨hglobal, haxis⟩ := not_writable_of_readOnly_or_reserved haddr
  exact ⟨congrArg Except.ok (decodeHost_writeWord_ignored hglobal haxis d), rfl⟩

end Sys2Proof
end

section
/-! The codes of the instructions (30 R101 to R112; 43 R211): decoding a code gives its instruction back. -/

namespace Sys2Proof

open Sys2Proof.Machine Sys2Proof.Claim

theorem decodeHost_writeWord_axisAddr (m : Axis) (r : BitVec 5) (d : Data) :
    decodeHost (writeWord (axisAddr m r) d) = decodeAxisWrite (axisAddr m r) d := by
  simp [decodeHost_writeWord]

theorem decodeHost_writeWord_globalAddr (r : BitVec 6) (d : Data) :
    decodeHost (writeWord (globalAddr r) d) = decodeGlobalWrite (globalAddr r) d := by
  simp [decodeHost_writeWord]

/-- Settles O1: a stage, EVT or CAN code is evaluated; a HOST code is decoded by the row of its address, `WR.IGNORED` being
well-formed only at an address that has no other row. -/
theorem decodeEncodeRoundTrip : Obligations.DecodeEncodeRoundTrip := by
  unfold Obligations.DecodeEncodeRoundTrip
  intro i hwf
  cases i with
  | cwSpinup | cwCruise | cwSpindown | ccwSpinup | ccwCruise | ccwSpindown | ccwCreep | cwCreep | idle => rfl
  | tick => rfl
  | rd addr => exact congrArg Except.ok (decodeHost_readWord addr)
  | wrTimCtrl d | wrTimPeriod d | wrCommit d | wrSpinPeriod d =>
    exact congrArg Except.ok (decodeHost_writeWord_globalAddr _ d)
  | wrShadowFlags m d | wrCruiseSteps m d | wrCwCreepSteps m d | wrCcwCreepSteps m d | wrCurSpinup m d | wrCurCruise m d
  | wrCurSpindown m d | wrCurCreep m d | wrCurDrop m d | wrCreepPeriod m d | wrBump m d =>
    cases m <;> exact congrArg Except.ok (decodeHost_writeWord_axisAddr _ _ d)
  | wrIgnored addr d =>
    obtain ⟨hglobal, haxis⟩ : writableGlobal addr = false ∧ writableAxis addr = false := by
      simpa [Instr.wellFormed] using hwf
    exact congrArg Except.ok (decodeHost_writeWord_ignored hglobal haxis d)
  | cmd2SetCurrents | cmd3SetPeriods | cmd4QueueMove | cmd7Execute => rfl

/-- A HOST word that is an instruction's code is decoded to it. -/
theorem decodeHost_of_encode {i : Instr} {w : HostWord} (hwf : i.wellFormed = true) (h : encode i = .host w) :
    decodeHost w = i := by
  have hdecode := decodeEncodeRoundTrip i hwf
  rw [h] at hdecode
  exact Except.ok.inj hdecode

/-- Settles O5: the HOST, EVT and CAN words are the codes of their instructions; the stage word has bits below its highest one,
which alone counts. -/
theorem printedWordsDecode : Obligations.PrintedWordsDecode := by
  unfold Obligations.PrintedWordsDecode
  exact ⟨decodeEncodeRoundTrip (.wrTimCtrl 3#32) rfl, decodeEncodeRoundTrip (.wrCommit 2#32) rfl,
    decodeEncodeRoundTrip (.wrShadowFlags .one 0xE1#32) rfl, decodeEncodeRoundTrip (.wrCruiseSteps .zero 1000#32) rfl,
    decodeEncodeRoundTrip (.wrCurCruise .one 70#32) rfl, decodeEncodeRoundTrip (.wrIgnored 0x41#7 0xFF#32) rfl,
    decodeEncodeRoundTrip (.rd 0x61#7) rfl, (stagePattern_iff_decode .zero 0xE1#8 7).mp rfl,
    decodeEncodeRoundTrip .tick rfl, decodeEncodeRoundTrip .cmd7Execute rfl⟩

end Sys2Proof
end

section
/-! What the handlers of commands 2, 3 and 4 issue, and what the port makes of it (43 R212 to R214). -/

namespace Sys2Proof.Machine

open Sys2Proof.Claim

/-! ### The port serves the accesses that wait -/

/-- Turns that are as many as the accesses, waiting or issued by them, serve them all in their order. -/
theorem runSteps_serve_all {s t : State} {ts rest : List Turn} {ws : List HostWord} (hts : ∀ t ∈ ts, t.Serves)
    (hturns : s.turns = ts ++ rest) (hports : ts.count .port ≤ s.hostQueue.length)
    (hws : s.hostQueue ++ hostWords ts = ws) (hlen : ws.length = ts.length)
    (hexec : execAll (ws.map decodeHost) { s with turns := rest, hostQueue := [] } = .next t) :
    runSteps ts.length s = .next t := by
  obtain ⟨k, u, hrun, ⟨-, hserved⟩, hall⟩ := runSteps_serves_first rest ts hts s hturns
  rw [hall hports, hws, ← hlen, List.take_length, List.drop_length, hexec] at hserved
  rw [hrun, hserved]

/-- Whatever accesses wait, the shadow words they leave are the ones `issuedShadow` foresees (entry 29). -/
theorem execAll_decodeHost_shadow (ws : List HostWord) (s : State) : ∃ t, execAll (ws.map decodeHost) s = .next t ∧
    ∀ m, (t.axis m).shadowFlags = ws.foldl (shadowAfter m) (s.axis m).shadowFlags := by
  induction ws generalizing s with
  | nil => exact ⟨s, rfl, fun _ => rfl⟩
  | cons w ws ih =>
    obtain ⟨u, hu, -⟩ := exec_decodeHost_queue w s [] []
    obtain ⟨t, ht, hshadow⟩ := ih u
    refine ⟨t, (execAll_cons_of_next _ hu).trans ht, fun m => ?_⟩
    rw [hshadow m, List.foldl_cons, exec_decodeHost_shadow w s u m hu]

/-! ### Command 2 (43 R212) -/

theorem decodeHost_currentAddr (m : Axis) (r : CurrentReg) (b : Byte) :
    decodeHost (writeWord (currentAddr m r) (zext32 b)) = currentWrite m r b := by
  cases r <;> exact decodeHost_of_encode rfl rfl

theorem map_decodeHost_currentWrites (k : Nat) (b : Byte) :
    (currentWrites k b).map decodeHost = (Config.cmd2Map k).map fun r => currentWrite r.1 r.2 b := by
  rw [currentWrites, List.map_map]
  exact List.map_congr_left fun r _ => decodeHost_currentAddr r.1 r.2 b

/-- Settles O52: each byte's writes are decoded by themselves; the bytes stand in the order of their numbers. -/
theorem setCurrentsFollowsTheMap : Obligations.SetCurrentsFollowsTheMap := by
  unfold Obligations.SetCurrentsFollowsTheMap
  intro s b0 b1 b2 b3 b4 b5 b6 b7
  refine ⟨_, rfl, ?_⟩
  simp only [List.map_append, map_decodeHost_currentWrites, List.zipIdx_cons, List.zipIdx_nil, List.flatMap_cons,
    List.flatMap_nil, List.append_nil, List.append_assoc]

/-! ### Command 3 (43 R213) -/

theorem exec_wrCreepPeriod_byte (m : Axis) (b : Byte) (s : State) :
    exec (.wrCreepPeriod m (zext32 b)) s = .next (s.setAxis m { s.axis m with creepPeriod := b }) := by
  rw [exec, execWrCreepPeriod, lowBits_zext32]

theorem exec_wrSpinPeriod_byte (b : Byte) (s : State) :
    exec (.wrSpinPeriod (zext32 b)) s = .next { s with spinPeriod := b } := by
  rw [exec, execWrSpinPeriod, lowBits_zext32]

/-- The three writes of command 3. -/
theorem map_decodeHost_periodWrites (creep0 creep1 spin : Byte) (s : State) (hqueue : s.hostQueue = []) :
    (handleSetPeriods creep0 creep1 spin s).hostQueue.map decodeHost =
      [.wrCreepPeriod .zero (zext32 creep0), .wrCreepPeriod .one (zext32 creep1), .wrSpinPeriod (zext32 spin)] := by
  rw [handleSetPeriods, issue_hostQueue, hqueue, List.nil_append, List.map_cons, List.map_cons, List.map_singleton,
    decodeHost_creepPeriod, decodeHost_creepPeriod, decodeHost_spinPeriod]

/-- Settles O51: the port's three turns serve the three writes, and a byte that a write carries is what its register takes. -/
theorem setPeriodsReachesTheRegisters : Obligations.SetPeriodsReachesTheRegisters := by
  unfold Obligations.SetPeriodsReachesTheRegisters
  intro s creep0 creep1 spin rest hqueue
  have hwrites := map_decodeHost_periodWrites creep0 creep1 spin s hqueue
  have hthree : (handleSetPeriods creep0 creep1 spin s).hostQueue.length = 3 := by
    simpa using congrArg List.length hwrites
  refine ⟨_, rfl, rfl, hwrites, ?_⟩
  refine runSteps_serve_all (ts := List.replicate 3 .port) (fun t ht => .inl (List.eq_of_mem_replicate ht)) rfl
    hthree.ge (List.append_nil _) hthree ?_
  rw [hwrites, execAll_cons_of_next _ (exec_wrCreepPeriod_byte ..), execAll_cons_of_next _ (exec_wrCreepPeriod_byte ..),
    execAll_cons_of_next _ (exec_wrSpinPeriod_byte ..), hqueue]
  rfl

/-! ### Command 4 (43 R214) -/

theorem isCount_cmd4Count (c1 c2 c3 : Byte) : IsCount c1 c2 c3 (cmd4Count c1 c2 c3) := by
  have bytes_toNat (a b c : Byte) :
      ((a ++ b ++ c).setWidth 32 : Data).toNat = a.toNat * 65536 + b.toNat * 256 + c.toNat := by
    rw [BitVec.toNat_setWidth, BitVec.toNat_append, BitVec.toNat_append, ← Nat.shiftLeft_add_eq_or_of_lt c.isLt,
      ← Nat.shiftLeft_add_eq_or_of_lt b.isLt]
    have := a.isLt
    have := b.isLt
    have := c.isLt
    simp only [Nat.shiftLeft_eq]
    omega
  unfold cmd4Count
  split
  · exact .inl (bytes_toNat c1 c2 c3)
  · exact .inr (bytes_toNat c3 c2 c1)

/-- Either reading of the shadow word is one of the two that 43 R214 leaves open. -/
theorem isLoadedShadow_cmd4Shadow (s : State) (m : Axis) (flags : StageWord) :
    IsLoadedShadow s m flags (zext32 (cmd4Shadow flags (issuedShadow m s))) := by
  obtain ⟨t, ht, hshadow⟩ := execAll_decodeHost_shadow s.hostQueue s
  refine ⟨t, ht, ?_⟩
  rw [hshadow m]
  unfold cmd4Shadow
  split
  · exact .inr rfl
  · exact .inl rfl

theorem decodeHost_counterAddr (m : Axis) (k : StepCounter) (d : Data) :
    decodeHost (writeWord (counterAddr m k) d) = counterWrite m k d := by
  cases k <;> exact decodeHost_of_encode rfl rfl

theorem exec_cmd4_of_none {select : Byte} (h : cmd4Select select = none) (c1 c2 c3 p4 p5 : Byte) (s : State) :
    exec (.cmd4QueueMove select c1 c2 c3 p4 p5) s = .next s := by
  rw [exec, execCmd4QueueMove, handleQueueMove, h]

theorem exec_cmd4_of_some {select : Byte} {g : MoveTarget} (h : cmd4Select select = some g) (c1 c2 c3 p4 p5 : Byte)
    (s : State) : exec (.cmd4QueueMove select c1 c2 c3 p4 p5) s =
      .next { s with hostQueue := s.hostQueue ++ moveWrites g (cmd4Count c1 c2 c3) s } := by
  rw [exec, execCmd4QueueMove, handleQueueMove, h]
  rfl

theorem cmd4Select_zero : cmd4Select 0#8 = some ⟨.zero, some .cwCreep, 0x01#8⟩ := if_pos rfl

theorem cmd4Select_of_ne_zero {select : Byte} (h : select ≠ 0#8) : cmd4Select select = Config.cmd4SelectOther select :=
  if_neg h

/-- Settles O53: the target of select 0 is motor 0's CW creep. -/
theorem queueMoveTypeZero : Obligations.QueueMoveTypeZero := by
  unfold Obligations.QueueMoveTypeZero
  intro s c1 c2 c3 p4 p5
  exact ⟨_, _, _, _, exec_cmd4_of_some cmd4Select_zero c1 c2 c3 p4 p5 s, decodeHost_counterAddr .zero .cwCreep _,
    isCount_cmd4Count c1 c2 c3, decodeHost_shadowFlags .zero _, isLoadedShadow_cmd4Shadow s .zero 0x01#8⟩

/-- Settles O54: the same two writes for whatever target the code names, without the count's if it names no counter. -/
theorem queueMoveAnySelect : Obligations.QueueMoveAnySelect := by
  unfold Obligations.QueueMoveAnySelect
  intro s select c1 c2 c3 p4 p5 hselect
  rw [← cmd4Select_of_ne_zero hselect]
  refine ⟨fun hnone => exec_cmd4_of_none hnone c1 c2 c3 p4 p5 s, fun g hg => ?_⟩
  refine ⟨_, cmd4Count c1 c2 c3, _, exec_cmd4_of_some hg c1 c2 c3 p4 p5 s, ?_, isCount_cmd4Count c1 c2 c3,
    isLoadedShadow_cmd4Shadow s g.axis g.flags⟩
  rw [moveWrites, countWrites, List.map_append, List.map_singleton, decodeHost_shadowFlags]
  cases g.counter with
  | none => rfl
  | some k => simp only [List.map_singleton, decodeHost_counterAddr]

end Sys2Proof.Machine
end

section
/-! The move table and what triggers it (43 R211, R215, R216). -/

namespace Sys2Proof.Machine

open Sys2Proof.Claim

/-! ### Command 7 replays the table (43 R215, R216) -/

theorem exec_commandInstr {c : Command} (hc : c ≠ .execute) (s : State) :
    exec (commandInstr c) s = .next (handle s c) := by
  cases c with
  | execute => exact absurd rfl hc
  | setCurrents | setPeriods | queueMove => rfl

theorem execAll_commandInstr (table : List Command) (h : .execute ∉ table) (s : State) :
    execAll (table.map commandInstr) s = .next (table.foldl handle s) := by
  induction table generalizing s with
  | nil => rfl
  | cons c table ih =>
    obtain ⟨hc, htable⟩ := List.ne_and_not_mem_of_not_mem_cons h
    rw [List.map_cons, execAll_cons_of_next _ (exec_commandInstr hc.symm s), List.foldl_cons]
    exact ih htable _

theorem commitMask_getLsbD_iff (m m' : Axis) : (commitMask m').getLsbD (number m) = true ↔ m' = m := by
  cases m <;> cases m' <;> decide

/-- The only command that loads an axis is a command 4 that selects it (entry 22). -/
theorem loadedAxis_getLsbD_iff (c : Command) (m : Axis) :
    (loadedAxis c).getLsbD (number m) = true ↔
      ∃ select c1 c2 c3 p4 p5 g, .queueMove select c1 c2 c3 p4 p5 = c ∧ cmd4Select select = some g ∧ g.axis = m := by
  cases c with
  | setCurrents | setPeriods | execute => simp [loadedAxis]
  | queueMove select c1 c2 c3 p4 p5 =>
    rw [loadedAxis]
    cases h : cmd4Select select with
    | none => simp [h]
    | some g => simp [h, commitMask_getLsbD_iff]

theorem foldl_or_getLsbD_iff (table : List Command) (mask : BitVec 2) (j : Nat) :
    (table.foldl (fun mask c => mask ||| loadedAxis c) mask).getLsbD j = true ↔
      mask.getLsbD j = true ∨ ∃ c ∈ table, (loadedAxis c).getLsbD j = true := by
  induction table generalizing mask with
  | nil => simp
  | cons c table ih => rw [List.foldl_cons, ih, BitVec.getLsbD_or, Bool.or_eq_true, List.exists_mem_cons_iff, or_assoc]

theorem tableMask_getLsbD_iff (table : List Command) (m : Axis) :
    (tableMask table).getLsbD (number m) = true ↔
      ∃ select c1 c2 c3 p4 p5 g, .queueMove select c1 c2 c3 p4 p5 ∈ table ∧ cmd4Select select = some g ∧ g.axis = m := by
  rw [tableMask, foldl_or_getLsbD_iff, BitVec.getLsbD_zero]
  simp only [loadedAxis_getLsbD_iff]
  constructor
  · rintro (h | ⟨c, hc, select, c1, c2, c3, p4, p5, g, rfl, hg⟩)
    · cases h
    · exact ⟨select, c1, c2, c3, p4, p5, g, hc, hg⟩
  · rintro ⟨select, c1, c2, c3, p4, p5, g, hc, hg⟩
    exact .inr ⟨_, hc, select, c1, c2, c3, p4, p5, g, rfl, hg⟩

/-- The data of the commit write has the bits of the mask. -/
theorem zext32_getLsbD_number (mask : BitVec 2) (m : Axis) :
    (zext32 mask).getLsbD (number m) = mask.getLsbD (number m) := by
  cases m <;> revert mask <;> decide

/-- Settles O55: the replay is the handlers one after the other and then the commit write of the table's mask. -/
theorem executeReplaysTheTable : Obligations.ExecuteReplaysTheTable := by
  unfold Obligations.ExecuteReplaysTheTable
  intro s htrigger
  have hexec : exec .cmd7Execute s = .next (replayTable s) := rfl
  rw [hexec]
  obtain ⟨hempty, hreplay⟩ | ⟨hne, ws, hissued, hreplay⟩ := replayTable_cases s <;> rw [hreplay]
  · exact ⟨fun _ => rfl, fun hne => absurd hempty hne⟩
  · refine ⟨fun hempty => absurd hempty hne, fun _ => ?_⟩
    refine ⟨ws, _, _, _, rfl, tableAfterReplay_cases s.moveTable, ?_, decodeHost_commit _, ?_, fun m => ?_⟩
    · rw [execAll_commandInstr s.moveTable htrigger, hissued, issue]
    · rw [zext32_toNat _ (by decide)]
      exact (tableMask s.moveTable).isLt
    · rw [zext32_getLsbD_number, tableMask_getLsbD_iff]

/-! ### The other triggers and the discarding of the table (43 R215, R216) -/

/-- Settles O56: the turn of the sync line is the replay. -/
theorem syncLineExecutesTheTable : Obligations.SyncLineExecutesTheTable := by
  unfold Obligations.SyncLineExecutesTheTable
  intro s rest hturns
  rw [step_turn s _ rest hturns]
  rfl

theorem exec_cmd7_of_empty {s : State} (h : s.moveTable = []) : exec .cmd7Execute s = .next s := by
  rw [exec, execCmd7Execute, replayTable, if_pos h]

/-- Settles O57: the discarded table is empty, and the replay of an empty table is no change. -/
theorem rejectedTableHasNoEffect : Obligations.RejectedTableHasNoEffect := by
  unfold Obligations.RejectedTableHasNoEffect
  intro s rest hturns
  exact ⟨_, step_turn s _ rest hturns, rfl, exec_cmd7_of_empty rfl⟩

/-- Settles O58: the three things a frame that triggers the table can be. -/
theorem singleCommandTriggersTheTable : Obligations.SingleCommandTriggersTheTable := by
  unfold Obligations.SingleCommandTriggersTheTable
  intro s f rest hturns
  have hstep : step s = dispatchFrame f { s with turns := rest } := step_turn s _ rest hturns
  rw [hstep]
  obtain ⟨e, hf, h⟩ | ⟨hf, h⟩ | ⟨c, hc, hf, h⟩ := dispatchFrame_cases f { s with turns := rest } <;> rw [hf, h]
  · exact ⟨nofun, nofun, fun _ _ => rfl⟩
  · exact ⟨fun c hok hne => absurd (Except.ok.inj hok).symm hne, fun _ => rfl, nofun⟩
  · refine ⟨fun c' hok _ => ?_, fun hok => absurd (Except.ok.inj hok) hc, nofun⟩
    rw [Except.ok.inj hok]

/-! ### Received frames (43 R211) -/

theorem decodeCommand_of_long {f : CanFrame} (hlong : 8 < f.payload.length) : decodeCommand f = .error .longPayload :=
  if_pos hlong

/-- Too few bytes for the command of the id (entry 23): the one other arm of the id needs them all. -/
theorem decodeCommand_of_short {f : CanFrame}
    (h : f.id = 2#8 ∧ f.payload.length < 8 ∨ f.id = 3#8 ∧ f.payload.length < 3 ∨ f.id = 4#8 ∧ f.payload.length < 6) :
    decodeCommand f = .error .shortPayload := by
  rw [decodeCommand, if_neg (show ¬ 8 < f.payload.length by omega)]
  obtain ⟨hid, hshort⟩ | ⟨hid, hshort⟩ | ⟨hid, hshort⟩ := h
  · split
    case h_1 hbytes => simp only [hbytes, List.length_cons] at hshort; omega
    all_goals simp_all
  · split
    case h_3 hbytes => simp only [hbytes, List.length_cons] at hshort; omega
    all_goals simp_all
  · split
    case h_5 hbytes => simp only [hbytes, List.length_cons] at hshort; omega
    all_goals simp_all

theorem decodeCommand_of_other_id {f : CanFrame} (hlen : f.payload.length ≤ 8) (h2 : f.id ≠ 2#8) (h3 : f.id ≠ 3#8)
    (h4 : f.id ≠ 4#8) (h7 : f.id ≠ 7#8) : decodeCommand f = .error .unknownCommand := by
  rw [decodeCommand, if_neg hlen.not_gt]
  rw [← BitVec.toNat_ne_iff_ne] at h2 h3 h4 h7
  split
  case h_8 => rfl
  all_goals contradiction

theorem decodeCommand_execute {f : CanFrame} (hlen : f.payload.length ≤ 8) (hid : f.id = 7#8) :
    decodeCommand f = .ok .execute := by
  rw [decodeCommand, if_neg hlen.not_gt, hid]
  rfl

theorem decodeCommand_setCurrents {f : CanFrame} (hlen : f.payload.length ≤ 8) (hid : f.id = 2#8)
    {b0 b1 b2 b3 b4 b5 b6 b7 : Byte} {more : List Byte}
    (hpayload : f.payload = b0 :: b1 :: b2 :: b3 :: b4 :: b5 :: b6 :: b7 :: more) :
    decodeCommand f = .ok (.setCurrents b0 b1 b2 b3 b4 b5 b6 b7) := by
  rw [decodeCommand, if_neg hlen.not_gt, hid, hpayload]
  rfl

theorem decodeCommand_setPeriods {f : CanFrame} (hlen : f.payload.length ≤ 8) (hid : f.id = 3#8)
    {creep0 creep1 spin : Byte} {more : List Byte} (hpayload : f.payload = creep0 :: creep1 :: spin :: more) :
    decodeCommand f = .ok (.setPeriods creep0 creep1 spin) := by
  rw [decodeCommand, if_neg hlen.not_gt, hid, hpayload]
  rfl

theorem decodeCommand_queueMove {f : CanFrame} (hlen : f.payload.length ≤ 8) (hid : f.id = 4#8)
    {select c1 c2 c3 p4 p5 : Byte} {more : List Byte}
    (hpayload : f.payload = select :: c1 :: c2 :: c3 :: p4 :: p5 :: more) :
    decodeCommand f = .ok (.queueMove select c1 c2 c3 p4 p5) := by
  rw [decodeCommand, if_neg hlen.not_gt, hid, hpayload]
  rfl

/-- What a received frame does is what it is decoded to (43 R211, R215). -/
theorem step_canReceive {s : State} {f : CanFrame} {rest : List Turn} (hturns : s.turns = .canReceive f :: rest) :
    (∀ e, decodeCommand f = .error e → step s = .next { s with turns := rest }) ∧
    (decodeCommand f = .ok .execute → step s = exec .cmd7Execute { s with turns := rest }) ∧
    (∀ c, decodeCommand f = .ok c → c ≠ .execute →
      step s = .next { s with turns := rest, moveTable := s.moveTable ++ [c] }) := by
  have hstep : step s = receiveFrame f { s with turns := rest } := step_turn s _ rest hturns
  rw [hstep]
  obtain ⟨e, hf, h⟩ | ⟨hf, h⟩ | ⟨c, hc, hf, h⟩ := receiveFrame_cases f { s with turns := rest } <;> rw [hf, h]
  · exact ⟨fun _ _ => rfl, nofun, nofun⟩
  · exact ⟨nofun, fun _ => rfl, fun c hok hne => absurd (Except.ok.inj hok).symm hne⟩
  · refine ⟨nofun, fun hok => absurd (Except.ok.inj hok) hc, fun c' hok _ => ?_⟩
    rw [Except.ok.inj hok]

/-- Settles O59: each clause decodes the frame, and `step_canReceive` says what that does. -/
theorem receivedFrames : Obligations.ReceivedFrames := by
  unfold Obligations.ReceivedFrames
  intro s f rest hturns
  obtain ⟨hignored, htrigger, hbuffered⟩ := step_canReceive hturns
  refine ⟨fun hlen => ⟨?_, ?_, ?_, ?_, ?_⟩, fun hshort => ?_, fun hlong => ?_⟩
  · intro b0 b1 b2 b3 b4 b5 b6 b7 hid hpayload
    exact hbuffered _ (decodeCommand_setCurrents hlen hid hpayload) nofun
  · intro b0 b1 b2 more hid hpayload
    exact hbuffered _ (decodeCommand_setPeriods hlen hid hpayload) nofun
  · intro b0 b1 b2 b3 b4 b5 more hid hpayload
    exact hbuffered _ (decodeCommand_queueMove hlen hid hpayload) nofun
  · intro hid
    exact htrigger (decodeCommand_execute hlen hid)
  · intro h2 h3 h4 h7
    exact hignored _ (decodeCommand_of_other_id hlen h2 h3 h4 h7)
  · exact hignored _ (decodeCommand_of_short hshort)
  · exact hignored _ (decodeCommand_of_long hlong)

end Sys2Proof.Machine
end

section
/-! What a step fetches, and what it makes of the move table (20 R86; 40 R132; 43 R211, R215). -/

namespace Sys2Proof.Machine

open Sys2Proof.Claim

/-! ### The instruction a step runs -/

theorem runCode_of_ok {c : Code} {i : Instr} (h : decode c = .ok i) (s : State) : runCode c s = exec i s := by
  rw [runCode, h]

/-- A serving turn runs the oldest access, what the turn itself issues being the youngest. -/
theorem Turn.Serves.step_of_oldest {t : Turn} (ht : t.Serves) {s : State} {rest : List Turn} {v : HostWord}
    {vs : List HostWord} {i : Instr} (hturns : s.turns = t :: rest) (hqueue : s.hostQueue ++ hostWords [t] = v :: vs)
    (hdecode : decode (.host v) = .ok i) : step s = exec i { s with turns := rest, hostQueue := vs } := by
  obtain ⟨hnone, -⟩ | ⟨v', vs', hqueue', hstep⟩ := ht.step_cases hturns
  · cases hqueue.symm.trans hnone
  · cases hqueue.symm.trans hqueue'
    rw [hstep, Except.ok.inj hdecode]

theorem decode_can_eq_ok_iff (f : CanFrame) (i : Instr) :
    decode (.can f) = .ok i ↔ ∃ c, decodeCommand f = .ok c ∧ commandInstr c = i := by
  rw [decode]
  cases decodeCommand f <;> simp [Except.map]

theorem commandInstr_eq_cmd7_iff (c : Command) : commandInstr c = .cmd7Execute ↔ c = .execute := by
  cases c <;> simp [commandInstr]

/-- A handler neither reads nor writes the move table. -/
theorem handle_moveTable (s : State) (c : Command) (table : List Command) :
    handle { s with moveTable := table } c = { handle s c with moveTable := table } := by
  cases c with
  | setCurrents | setPeriods | execute => rfl
  | queueMove select c1 c2 c3 p4 p5 =>
    simp only [handle, handleQueueMove]
    cases cmd4Select select <;> rfl

/-- Into an empty table a command comes alone: the replay runs its handler and issues the commit. -/
theorem replayTable_singleton (s : State) (c : Command) : replayTable { s with moveTable := [c] } =
    { handle s c with
      hostQueue := (handle s c).hostQueue ++ [writeWord (globalAddr 0x03#6) (zext32 (tableMask [c]))]
      moveTable := tableAfterReplay [c] } := by
  rw [replayTable, if_neg (List.cons_ne_nil c []), List.foldl_cons, List.foldl_nil, handle_moveTable]
  rfl

/-- Settles O6: the serving turns run the oldest access, a trigger frame is `singleCommandTriggersTheTable`, and the engine runs
the code of its two bits. -/
theorem stepRunsTheFetchedInstruction : Obligations.StepRunsTheFetchedInstruction := by
  unfold Obligations.StepRunsTheFetchedInstruction
  intro s rest i
  refine ⟨?_, ?_, ?_, ?_, ?_, ?_⟩
  · intro w hturns hqueue hdecode
    rw [Turn.Serves.step_of_oldest (.inr ⟨w, rfl⟩) (vs := []) hturns (by rw [hqueue]; rfl) hdecode, ← hqueue]
  · intro w v vs hturns hqueue hdecode
    exact Turn.Serves.step_of_oldest (.inr ⟨w, rfl⟩) hturns (by rw [hqueue]; rfl) hdecode
  · intro w ws hturns hqueue hdecode
    exact Turn.Serves.step_of_oldest (.inl rfl) hturns (by rw [hqueue]; exact List.append_nil _) hdecode
  · intro f hturns hdecode
    obtain ⟨c, hc, hi⟩ := (decode_can_eq_ok_iff f _).mp hdecode
    rw [(commandInstr_eq_cmd7_iff c).mp hi] at hc
    obtain ⟨-, htrigger, -⟩ := singleCommandTriggersTheTable s f rest hturns
    exact htrigger hc
  · intro f hturns hdecode hne hempty
    obtain ⟨c, hc, rfl⟩ := (decode_can_eq_ok_iff f _).mp hdecode
    have hcommand : c ≠ .execute := mt (commandInstr_eq_cmd7_iff c).mpr hne
    obtain ⟨hsingle, -⟩ := singleCommandTriggersTheTable s f rest hturns
    have hstep : step s = .next (replayTable { s with turns := rest, moveTable := [c] }) := by
      rw [hsingle c hc hcommand, hempty]
      rfl
    exact ⟨_, _, _, _, exec_commandInstr hcommand _, decodeHost_commit _,
      hstep.trans (congrArg Host.Outcome.next (replayTable_singleton { s with turns := rest } c))⟩
  · intro hturns hdecode
    exact (step_turn s _ rest hturns).trans (runCode_of_ok hdecode _)

/-! ### The move table under a turn -/

theorem portTurn_moveTable {s u : State} (h : portTurn s = .next u) : u.moveTable = s.moveTable := by
  obtain ⟨-, hport⟩ | ⟨w, ws, -, hport⟩ := portTurn_cases s <;> rw [hport] at h
  · cases h
    rfl
  · obtain ⟨t, ht, -, -, htable, -⟩ := exec_decodeHost_queue w { s with hostQueue := ws } [] []
    rw [ht] at h
    cases h
    exact htable

theorem tickHandler_moveTable (s : State) : (tickHandler s).moveTable = s.moveTable := by
  rw [tickHandler_frame]

theorem engineTurn_moveTable {s u : State} (h : engineTurn s = .next u) : u.moveTable = s.moveTable := by
  obtain ⟨-, -, hengine⟩ | ⟨-, hengine⟩ := engineTurn_cases s <;> rw [hengine] at h <;> cases h
  · exact tickHandler_moveTable s
  · rfl

theorem timerClock_moveTable (s : State) : (timerClock s).moveTable = s.moveTable := by
  obtain ⟨-, h⟩ | ⟨-, -, h⟩ | ⟨-, -, h⟩ := timerClock_cases s <;> rw [h]

theorem untimedEvent_moveTable (s : State) : (untimedEvent s).moveTable = s.moveTable := by
  unfold untimedEvent
  split <;> rfl

theorem replayTable_moveTable (s : State) :
    (replayTable s).moveTable = [] ∨ (replayTable s).moveTable = s.moveTable := by
  obtain ⟨-, h⟩ | ⟨-, ws, -, h⟩ := replayTable_cases s <;> rw [h]
  · exact .inr rfl
  · exact tableAfterReplay_cases s.moveTable

/-- All a turn can do to the move table: leave it, empty it, or put a command behind it, which is no trigger. -/
theorem runTurn_moveTable_cases {t : Turn} {s u : State} (h : runTurn t s = .next u) :
    u.moveTable = [] ∨ u.moveTable = s.moveTable ∨ ∃ c, c ≠ .execute ∧ u.moveTable = s.moveTable ++ [c] := by
  cases t with
  | clock => cases h; exact .inr (.inl (timerClock_moveTable s))
  | event => cases h; exact .inr (.inl (untimedEvent_moveTable s))
  | engine => exact .inr (.inl (engineTurn_moveTable h))
  | host w => exact .inr (.inl (portTurn_moveTable (s := issue [w] s) h))
  | port => exact .inr (.inl (portTurn_moveTable h))
  | canReceive f =>
    obtain ⟨e, -, hf⟩ | ⟨-, hf⟩ | ⟨c, hc, -, hf⟩ := receiveFrame_cases f s <;> cases hf.symm.trans h
    · exact .inr (.inl rfl)
    · exact (replayTable_moveTable s).imp_right .inl
    · exact .inr (.inr ⟨c, hc, rfl⟩)
  | canDispatch f =>
    obtain ⟨e, -, hf⟩ | ⟨-, hf⟩ | ⟨c, hc, -, hf⟩ := dispatchFrame_cases f s <;> cases hf.symm.trans h
    · exact .inr (.inl rfl)
    · exact (replayTable_moveTable s).imp_right .inl
    · exact (replayTable_moveTable { s with moveTable := s.moveTable ++ [c] }).imp_right fun h => .inr ⟨c, hc, h⟩
  | sync => cases h; exact (replayTable_moveTable s).imp_right .inl
  | rejectTable => cases h; exact .inl rfl
  | reset => cases h; exact .inr (.inl rfl)

theorem runTurn_noTriggerBuffered {t : Turn} {s u : State} (hs : NoTriggerBuffered s) (h : runTurn t s = .next u) :
    NoTriggerBuffered u := by
  unfold NoTriggerBuffered
  obtain htable | htable | ⟨c, hc, htable⟩ := runTurn_moveTable_cases h <;> rw [htable]
  · exact List.not_mem_nil
  · exact hs
  · rw [List.mem_append, List.mem_singleton]
    exact not_or.mpr ⟨hs, hc.symm⟩

/-- Settles O16: the reset table is empty, and a step is a turn. -/
theorem moveTableNeverHoldsATrigger : Obligations.MoveTableNeverHoldsATrigger := by
  unfold Obligations.MoveTableNeverHoldsATrigger
  refine ⟨List.not_mem_nil, fun s hs t hstep => ?_⟩
  cases hturns : s.turns with
  | nil => exact runTurn_noTriggerBuffered hs ((step_default s hturns).symm.trans hstep)
  | cons turn rest =>
    exact runTurn_noTriggerBuffered (s := { s with turns := rest }) hs ((step_turn s turn rest hturns).symm.trans hstep)

end Sys2Proof.Machine
end

section
/-! One electrical turn (43 R219): a run of ticks is a run of axis ticks, and a CW creep makes a step every period. -/

namespace Sys2Proof.Machine

open Sys2Proof.Claim

/-! ### Runs of ticks (30 R113) -/

theorem coreRun_add_of_next {M : Host.Core} {s u : M.State} {k : Nat} (n : Nat) (h : M.run k s = .next u) :
    M.run (k + n) s = M.run n u := by
  induction k generalizing s with
  | zero =>
    cases h
    rw [Nat.zero_add]
  | succ k ih =>
    rw [Nat.add_right_comm, Host.Core.run]
    rw [Host.Core.run] at h
    cases hstep : M.step s with
    | next v =>
      rw [hstep] at h
      exact ih h
    | fault r | refused r =>
      rw [hstep] at h
      cases h

theorem runSteps_add_of_next {s u : State} {k : Nat} (n : Nat) (h : runSteps k s = .next u) :
    runSteps (k + n) s = runSteps n u :=
  coreRun_add_of_next (M := Sys2Proof.core) n h

theorem ticks_add (k n : Nat) : ticks (k + n) = ticks k ++ ticks n := by
  rw [ticks, List.replicate_add, List.flatten_append]
  rfl

/-- What one tick makes of a machine `s` whose timer runs: the machine `t`, with the turns `rest` to come. -/
structure TickedTo (rest : List Turn) (s t : State) : Prop where
  /-- The next tick can occur. -/
  ticking : Ticking t
  /-- The tick's two turns are over. -/
  turns : t.turns = rest
  /-- The host's register that the axes share is kept. -/
  spinPeriod : t.spinPeriod = s.spinPeriod
  /-- So are the straps. -/
  rev : ∀ m, t.rev m = s.rev m
  /-- Each axis has ticked, and was handed its shadow word if it was committed. -/
  axis : ∀ m, t.axis m = if committed m s then handoff (tickOf (s.rev m) s.spinPeriod (s.axis m))
    else tickOf (s.rev m) s.spinPeriod (s.axis m)

theorem tickedTo_tickHandler {s : State} (hcen : s.cen = true) (huie : s.uie = true) :
    TickedTo s.turns s (tickHandler s) where
  ticking := by
    rw [tickHandler_frame]
    exact ⟨hcen, huie, rfl, rfl⟩
  turns := by rw [tickHandler_frame]
  spinPeriod := by rw [tickHandler_frame]
  rev m := by rw [tickHandler_frame]; cases m <;> rfl
  axis m := by rw [tickHandler_axis, commitBit_eq_committed]; rfl

theorem step_engine_of_due {s : State} {rest : List Turn} (huie : s.uie = true) (huif : s.uif = true)
    (hturns : s.turns = .engine :: rest) : step s = .next (tickHandler { s with turns := rest }) := by
  rw [step_turn s _ _ hturns, runTurn]
  obtain ⟨-, -, h⟩ | ⟨h | h, -⟩ := engineTurn_cases { s with turns := rest }
  · exact h
  · cases huie.symm.trans h
  · cases huif.symm.trans h

/-- A tick is two steps: the update event, and the run of the handler that it makes due. -/
theorem runSteps_tick {s : State} {rest : List Turn} (hcen : s.cen = true) (huie : s.uie = true)
    (hturns : s.turns = .event :: .engine :: rest) : ∃ t, runSteps 2 s = .next t ∧ TickedTo rest s t := by
  have hevent : step s = .next { s with turns := .engine :: rest, uif := true } := by
    rw [step_turn s _ _ hturns, runTurn, untimedEvent, if_pos hcen]
    rfl
  have hengine := step_engine_of_due (s := { s with turns := .engine :: rest, uif := true }) huie rfl rfl
  refine ⟨_, (runSteps_succ_of_next 1 hevent).trans (runSteps_succ_of_next 0 hengine), ?_⟩
  obtain ⟨hticking, hrest, hperiod, hrev, haxis⟩ :=
    tickedTo_tickHandler (s := { s with turns := rest, uif := true }) hcen huie
  exact ⟨hticking, hrest, hperiod, fun m => by rw [hrev m]; cases m <;> rfl, fun m => by rw [haxis m]; cases m <;> rfl⟩

theorem Ticking.not_committed {s : State} (hs : Ticking s) (m : Axis) : committed m s = false := by
  obtain ⟨-, -, -, hcommit⟩ := hs
  rw [committed, hcommit, BitVec.getLsbD_zero]

/-- While nothing is committed, `n` ticks of the machine are `n` ticks of each axis. -/
theorem runSteps_ticks {s : State} (n : Nat) {rest : List Turn} (hs : Ticking s) (hturns : s.turns = ticks n ++ rest) :
    ∃ t, runSteps (2 * n) s = .next t ∧ ∀ m, t.axis m = (tickOf (s.rev m) s.spinPeriod)^[n] (s.axis m) := by
  induction n generalizing s with
  | zero => exact ⟨s, rfl, fun _ => rfl⟩
  | succ n ih =>
    have ⟨hcen, huie, _⟩ := hs
    obtain ⟨u, hu, hticked⟩ := runSteps_tick hcen huie (rest := ticks n ++ rest) hturns
    obtain ⟨t, ht, haxis⟩ := ih hticked.ticking hticked.turns
    refine ⟨t, ?_, fun m => ?_⟩
    · rw [Nat.mul_succ, Nat.add_comm, runSteps_add_of_next _ hu, ht]
    · rw [haxis m, hticked.rev, hticked.spinPeriod, hticked.axis, Ticking.not_committed hs m, Function.iterate_succ_apply]
      rfl

/-! ### A CW creep, tick by tick (41 R162) -/

theorem tickOf_of_idle (rev : Bool) (sp : BitVec 8) {a : AxisState} (h : a.motionFlags = 0#8) : tickOf rev sp a = a := by
  rw [tickOf, axisTick, h]
  rfl

theorem tickOf_of_cwCreep (rev : Bool) (sp : BitVec 8) {a : AxisState} (h : a.motionFlags = 1#8) :
    tickOf rev sp a = cwCreep hardware rev a := by
  rw [tickOf, axisTick, h]
  rfl

/-- The axis runs a CW creep alone, a step every `period` ticks, with `left` ticks to go: those of the steps after the one
in progress, and what the sub-count leaves of that one. It will end at the phase `target`. -/
structure CwCreeping (period target left : Nat) (a : AxisState) : Prop where
  /-- The stage is active and nothing is queued. -/
  flags : a.motionFlags = 1#8
  /-- A period of 0 counts as 1. -/
  period_eq : max a.creepPeriod.toNat 1 = period
  /-- A step is left. -/
  active : a.cwCreepSteps ≠ 0#32
  /-- The step in progress is not over. -/
  sub_lt : a.creepSubcount.toNat < period
  /-- The ticks to go. -/
  left_eq : left = (a.cwCreepSteps.toNat - 1) * period + (period - a.creepSubcount.toNat)
  /-- The steps to go lead to the target. -/
  phase : (a.phaseAngle.toNat + a.cwCreepSteps.toNat) % 3600 = target

section Creeping

variable {period target n : Nat} {a : AxisState}

theorem cwCreep_creepPeriod (rev : Bool) (a : AxisState) : (cwCreep hardware rev a).creepPeriod = a.creepPeriod := by
  obtain ⟨-, -, -, -, -, -, hkept, -⟩ := cwCreep_sameHostOwned hardware rev a
  exact hkept.symm

theorem CwCreeping.period_pos (h : CwCreeping period target n a) : 0 < period := h.sub_lt.pos

/-- A tick that makes no step is not the last one. -/
theorem CwCreeping.wait (h : CwCreeping period target (n + 1) a) (rev : Bool)
    (hwait : a.creepSubcount.toNat + 1 < a.creepPeriod.toNat) :
    n ≠ 0 ∧ CwCreeping period target n (cwCreep hardware rev a) := by
  obtain ⟨hflags, hperiod, hactive, hsub, hleft, hphase⟩ := h
  obtain ⟨hsub', hphase', hsteps, hflags', -⟩ := (creepResult_cwCreep rev a).waits hactive hwait
  refine ⟨by omega, hflags'.trans hflags, ?_, hsteps ▸ hactive, by omega, ?_, ?_⟩
  · rw [cwCreep_creepPeriod, hperiod]
  · rw [hsteps, hsub']
    omega
  · rw [hphase', hsteps, hphase]

/-- A tick that makes a step leaves the ticks of the steps after it. -/
theorem CwCreeping.left_of_due (h : CwCreeping period target (n + 1) a)
    (hdue : a.creepPeriod.toNat ≤ a.creepSubcount.toNat + 1) : n = (a.cwCreepSteps.toNat - 1) * period := by
  obtain ⟨-, hperiod, -, hsub, hleft, -⟩ := h
  omega

/-- A step that is not the last one begins the next one. -/
theorem CwCreeping.step (h : CwCreeping period target (n + 1) a) (rev : Bool)
    (hdue : a.creepPeriod.toNat ≤ a.creepSubcount.toNat + 1) (hn : n ≠ 0) :
    CwCreeping period target n (cwCreep hardware rev a) := by
  have hleft := h.left_of_due hdue
  have hpos := h.period_pos
  obtain ⟨hflags, hperiod, hactive, -, -, hphase⟩ := h
  obtain ⟨hsub', hmoved, hsteps, hstays, -⟩ := (creepResult_cwCreep rev a).moves hactive hdue
  rw [PhaseMoved] at hmoved
  rw [← hsteps] at hleft
  have hmore : (cwCreep hardware rev a).cwCreepSteps.toNat ≠ 0 :=
    fun hlast => hn (by rw [hleft, hlast, Nat.zero_mul])
  have hactive' : (cwCreep hardware rev a).cwCreepSteps ≠ 0#32 := BitVec.toNat_ne.mpr hmore
  obtain ⟨hflags', -⟩ := hstays hactive'
  refine ⟨hflags'.trans hflags, ?_, hactive', ?_, ?_, by omega⟩
  · rw [cwCreep_creepPeriod, hperiod]
  · rw [hsub']
    exact hpos
  · rw [hsub', BitVec.toNat_ofNat, Nat.zero_mod, Nat.sub_zero, ← Nat.succ_mul, Nat.succ_eq_add_one,
      Nat.sub_one_add_one hmore, hleft]

/-- The last step ends the stage at the target. -/
theorem CwCreeping.last_step (h : CwCreeping period target 1 a) (rev : Bool)
    (hdue : a.creepPeriod.toNat ≤ a.creepSubcount.toNat + 1) :
    (cwCreep hardware rev a).motionFlags.getLsbD 0 = false ∧ (cwCreep hardware rev a).phaseAngle.toNat = target := by
  have hnone : (a.cwCreepSteps.toNat - 1) * period = 0 := (h.left_of_due hdue).symm
  have hsteps1 : a.cwCreepSteps.toNat - 1 = 0 := (Nat.mul_eq_zero.mp hnone).resolve_right h.period_pos.ne'
  obtain ⟨-, -, hactive, -, -, hphase⟩ := h
  obtain ⟨-, hmoved, hsteps, -, hends⟩ := (creepResult_cwCreep rev a).moves hactive hdue
  rw [PhaseMoved] at hmoved
  have hactive' := BitVec.toNat_ne.mp hactive
  rw [BitVec.toNat_ofNat] at hactive'
  obtain ⟨hcleared, -⟩ := hends (BitVec.eq_of_toNat_eq (hsteps.trans hsteps1))
  exact ⟨(hcleared 0).trans (Bool.and_false _), by omega⟩

/-- A tick of a creep goes on with it, unless it is the last one. -/
theorem CwCreeping.tick (h : CwCreeping period target (n + 1) a) (rev : Bool) (hn : n ≠ 0) :
    CwCreeping period target n (cwCreep hardware rev a) := by
  by_cases hdue : a.creepPeriod.toNat ≤ a.creepSubcount.toNat + 1
  · exact h.step rev hdue hn
  · obtain ⟨-, hgoes⟩ := h.wait rev (not_le.mp hdue)
    exact hgoes

theorem CwCreeping.last_tick (h : CwCreeping period target 1 a) (rev : Bool) :
    (cwCreep hardware rev a).motionFlags.getLsbD 0 = false ∧ (cwCreep hardware rev a).phaseAngle.toNat = target := by
  by_cases hdue : a.creepPeriod.toNat ≤ a.creepSubcount.toNat + 1
  · exact h.last_step rev hdue
  · obtain ⟨hne, -⟩ := CwCreeping.wait (n := 0) h rev (not_le.mp hdue)
    exact absurd rfl hne

/-- Until its last tick the creep goes on. -/
theorem CwCreeping.iterate (h : CwCreeping period target n a) (rev : Bool) (sp : BitVec 8) (k : Nat) (hk : k < n) :
    CwCreeping period target (n - k) ((tickOf rev sp)^[k] a) := by
  induction k with
  | zero => exact h
  | succ k ih =>
    have hprev := ih (Nat.lt_of_succ_lt hk)
    rw [Function.iterate_succ_apply', tickOf_of_cwCreep rev sp hprev.flags]
    rw [show n - k = n - (k + 1) + 1 by omega] at hprev
    exact hprev.tick rev (Nat.sub_ne_zero_of_lt hk)

/-- With its last tick the creep ends at its target. -/
theorem CwCreeping.iterate_all (h : CwCreeping period target n a) (hn : 0 < n) (rev : Bool) (sp : BitVec 8) :
    ((tickOf rev sp)^[n] a).motionFlags.getLsbD 0 = false ∧ ((tickOf rev sp)^[n] a).phaseAngle.toNat = target := by
  obtain ⟨n, rfl⟩ := Nat.exists_eq_succ_of_ne_zero hn.ne'
  have hprev := h.iterate rev sp n (Nat.lt_succ_self n)
  rw [Function.iterate_succ_apply', tickOf_of_cwCreep rev sp hprev.flags]
  rw [Nat.succ_eq_add_one, Nat.add_sub_cancel_left] at hprev
  exact hprev.last_tick rev

end Creeping

/-! ### The scenario (43 R219) -/

/-- The axis with one electrical turn of CW creep loaded: 3600 steps and the stage's shadow word. -/
def loadTurn (a : AxisState) : AxisState := { a with cwCreepSteps := 3600#32, shadowFlags := 1#8 }

/-- What the three host words make of the machine: axis 0 is loaded and committed. -/
def turnLoaded (rest : List Turn) (s : State) : State :=
  { s with ax0 := loadTurn s.ax0, commit := 0b01#2, turns := rest }

theorem committed_turnLoaded (rest : List Turn) (s : State) : committed .zero (turnLoaded rest s) = true := by
  have hcommit : (turnLoaded rest s).commit = 0b01#2 := rfl
  rw [committed, hcommit]
  rfl

theorem runSteps_turnLoaded {s : State} {rest : List Turn} (hcommit : s.commit = 0#2) (hqueue : s.hostQueue = [])
    (hturns : s.turns = .host 0xC600000E10#40 :: .host 0xC000000001#40 :: .host 0x8300000001#40 :: rest) :
    runSteps 3 s = .next (turnLoaded rest s) := by
  have hsteps : decodeHost 0xC600000E10#40 = .wrCwCreepSteps .zero 3600#32 := decodeHost_of_encode rfl rfl
  have hshadow : decodeHost 0xC000000001#40 = .wrShadowFlags .zero 1#32 := decodeHost_of_encode rfl rfl
  have hwrite : decodeHost 0x8300000001#40 = .wrCommit 1#32 := decodeHost_of_encode rfl rfl
  refine runSteps_serve_all (ts := [.host _, .host _, .host _])
    (ws := [0xC600000E10#40, 0xC000000001#40, 0x8300000001#40]) ?_ hturns (Nat.zero_le _) (by rw [hqueue]; rfl) rfl ?_
  · simp [Turn.Serves]
  · rw [List.map_cons, List.map_cons, List.map_singleton, hsteps, hshadow, hwrite, turnLoaded, hqueue]
    have hmask : 0#2 ||| lowBits 2 1#32 = 0b01#2 := rfl
    have hflags : lowBits 8 1#32 = 1#8 := rfl
    have hcount : lowBits 32 3600#32 = 3600#32 := rfl
    simp only [execAll, exec, execWrCwCreepSteps, execWrShadowFlags, execWrCommit, State.axis_zero, State.setAxis_zero,
      loadTurn, hcommit, hmask, hflags, hcount]

/-- The tick of the hand-off starts the creep of the loaded axis, which ends where it starts: 3600 steps are one turn. -/
theorem cwCreeping_handoff_loadTurn {a : AxisState} (hsub : a.creepSubcount = 0#8) (hphase : a.phaseAngle.toNat < 3600) :
    CwCreeping (max a.creepPeriod.toNat 1) a.phaseAngle.toNat (3600 * max a.creepPeriod.toNat 1)
      (handoff (loadTurn a)) := by
  have hsteps : (handoff (loadTurn a)).cwCreepSteps.toNat = 3600 := rfl
  have hsub' : (handoff (loadTurn a)).creepSubcount = 0#8 := hsub
  have hphase' : (handoff (loadTurn a)).phaseAngle = a.phaseAngle := rfl
  refine ⟨rfl, rfl, BitVec.toNat_ne.mpr (by rw [hsteps]; decide), ?_, ?_, ?_⟩
  · rw [hsub']
    exact lt_max_of_lt_right one_pos
  · rw [hsteps, hsub', BitVec.toNat_ofNat]
    omega
  · rw [hsteps, hphase']
    omega

/-- Settles O38: the host words load the axis, the first tick hands the creep over, and the `n` ticks after it are the creep. -/
theorem scenarioOneElectricalTurn : Obligations.ScenarioOneElectricalTurn := by
  unfold Obligations.ScenarioOneElectricalTurn
  intro s n hs hqueue hidle hsub hphase hn hturns
  obtain ⟨hcen, huie, -, hcommit⟩ := hs
  obtain ⟨u, hu, hticked⟩ :=
    runSteps_tick (s := turnLoaded (ticks (1 + n)) s) (rest := ticks n) hcen huie (by rw [turnLoaded, ticks_add]; rfl)
  have hstart : runSteps (3 + 2) s = .next u := by
    rw [runSteps_add_of_next 2 (runSteps_turnLoaded (rest := ticks (1 + n)) hcommit hqueue hturns), hu]
  have haxis : u.axis .zero = handoff (loadTurn s.ax0) := by
    rw [hticked.axis, if_pos (committed_turnLoaded _ s)]
    exact congrArg handoff (tickOf_of_idle _ _ hidle)
  have hcreep : CwCreeping (max s.ax0.creepPeriod.toNat 1) s.ax0.phaseAngle.toNat n (u.axis .zero) := by
    rw [haxis, hn]
    exact cwCreeping_handoff_loadTurn hsub hphase
  have hrun (k : Nat) (hk : k ≤ n) : ∃ t, runSteps (3 + 2 * (1 + k)) s = .next t ∧
      t.axis .zero = (tickOf (u.rev .zero) u.spinPeriod)^[k] (u.axis .zero) := by
    have hturns' : u.turns = ticks k ++ ticks (n - k) := by
      rw [hticked.turns, ← ticks_add, Nat.add_sub_cancel' hk]
    obtain ⟨t, ht, htaxis⟩ := runSteps_ticks k hticked.ticking hturns'
    refine ⟨t, ?_, htaxis .zero⟩
    rw [show 3 + 2 * (1 + k) = 3 + 2 + 2 * k by omega, runSteps_add_of_next _ hstart, ht]
  refine ⟨fun k hk => ?_, ?_⟩
  · obtain ⟨t, ht, htaxis⟩ := hrun k hk.le
    refine ⟨t, ht, ?_⟩
    rw [← State.axis_zero, htaxis, (hcreep.iterate _ _ k hk).flags]
    rfl
  · obtain ⟨t, ht, htaxis⟩ := hrun n le_rfl
    obtain ⟨hflag, hback⟩ := hcreep.iterate_all (by omega) (u.rev .zero) u.spinPeriod
    rw [← htaxis] at hflag hback
    exact ⟨t, ht, hflag, BitVec.eq_of_toNat_eq hback⟩

end Sys2Proof.Machine
end

section
/-! No fault and no refusal (60 R230): every instruction has a next state, so every turn has one, so every step has one. -/

namespace Sys2Proof.Machine

/-- A stage action replaces its axis, the handler is one step, the port answers every access, and a command is issued. -/
theorem exec_hasSuccessor (i : Instr) (s : State) : ∃ t, exec i s = .next t := by
  cases i with
  | cwSpinup | cwCruise | cwSpindown | ccwSpinup | ccwCruise | ccwSpindown | ccwCreep | cwCreep | idle => exact ⟨_, rfl⟩
  | tick => exact ⟨tickHandler s, rfl⟩
  | rd addr => exact ⟨_, exec_rd addr s⟩
  | wrTimCtrl | wrTimPeriod | wrCommit | wrSpinPeriod => exact ⟨_, rfl⟩
  | wrShadowFlags | wrCruiseSteps | wrCwCreepSteps | wrCcwCreepSteps | wrCurSpinup | wrCurCruise | wrCurSpindown
  | wrCurCreep | wrCurDrop | wrCreepPeriod | wrBump => exact ⟨_, rfl⟩
  | wrIgnored => exact ⟨s, rfl⟩
  | cmd2SetCurrents | cmd3SetPeriods | cmd4QueueMove => exact ⟨_, rfl⟩
  | cmd7Execute => exact ⟨replayTable s, rfl⟩

theorem engineTurn_hasSuccessor (s : State) : ∃ t, engineTurn s = .next t := by
  obtain ⟨-, -, h⟩ | ⟨-, h⟩ := engineTurn_cases s
  · exact ⟨tickHandler s, h⟩
  · exact ⟨s, h⟩

theorem portTurn_hasSuccessor (s : State) : ∃ t, portTurn s = .next t := by
  obtain ⟨-, h⟩ | ⟨w, ws, -, h⟩ := portTurn_cases s
  · exact ⟨s, h⟩
  · rw [h]
    exact exec_hasSuccessor (decodeHost w) _

/-- A frame that is no command is ignored, and every command is executed or buffered (93 U10). -/
theorem receiveFrame_hasSuccessor (f : CanFrame) (s : State) : ∃ t, receiveFrame f s = .next t := by
  obtain ⟨e, -, h⟩ | ⟨-, h⟩ | ⟨c, -, -, h⟩ := receiveFrame_cases f s <;> rw [h]
  · exact ⟨s, rfl⟩
  · exact exec_hasSuccessor .cmd7Execute s
  · exact ⟨_, rfl⟩

theorem dispatchFrame_hasSuccessor (f : CanFrame) (s : State) : ∃ t, dispatchFrame f s = .next t := by
  obtain ⟨e, -, h⟩ | ⟨-, h⟩ | ⟨c, -, -, h⟩ := dispatchFrame_cases f s <;> rw [h]
  · exact ⟨s, rfl⟩
  · exact exec_hasSuccessor .cmd7Execute s
  · exact exec_hasSuccessor .cmd7Execute _

theorem runTurn_hasSuccessor (t : Turn) (s : State) : ∃ u, runTurn t s = .next u := by
  cases t with
  | clock => exact ⟨timerClock s, rfl⟩
  | event => exact ⟨untimedEvent s, rfl⟩
  | engine => exact engineTurn_hasSuccessor s
  | host w => exact portTurn_hasSuccessor (issue [w] s)
  | port => exact portTurn_hasSuccessor s
  | canReceive f => exact receiveFrame_hasSuccessor f s
  | canDispatch f => exact dispatchFrame_hasSuccessor f s
  | sync => exact ⟨replayTable s, rfl⟩
  | rejectTable => exact ⟨discardTable s, rfl⟩
  | reset => exact ⟨resetBlock s, rfl⟩

theorem step_hasSuccessor (s : State) : ∃ t, step s = .next t := by
  cases hturns : s.turns with
  | nil =>
    rw [step_default s hturns]
    exact runTurn_hasSuccessor (defaultTurn s) s
  | cons turn rest =>
    rw [step_turn s turn rest hturns]
    exact runTurn_hasSuccessor turn _

/-- Settles O9: an instruction by its constructor, a step by the turn it takes. -/
theorem everyOperationHasASuccessor : Obligations.EveryOperationHasASuccessor := by
  unfold Obligations.EveryOperationHasASuccessor
  exact ⟨exec_hasSuccessor, step_hasSuccessor⟩

end Sys2Proof.Machine
end

section
/-! The two ROMs (20 R75, R76, R79): the listing of `WAVE` is read as one list, its rows put end to end; what is to be
checked of the listing is checked row by row, and W2 and W3 carry it to the rest of the table. -/

namespace Sys2Proof.Machine

open Finset (range)

/-! ### The listing as one list -/

/-- Rows of `n` entries, the last of which may be shorter, are addressed by quotient and remainder. -/
theorem getD_getD_eq_flatten_getD {n : Nat} (hn : 0 < n) (rows : List (List Nat))
    (hfull : ∀ row ∈ rows.dropLast, row.length = n) (hshort : ∀ row ∈ rows, row.length ≤ n) (i : Nat) :
    (rows.getD (i / n) []).getD (i % n) 0 = rows.flatten.getD i 0 := by
  induction rows generalizing i with
  | nil => simp
  | cons row rows ih =>
    obtain ⟨hrow, hrows⟩ := List.forall_mem_cons.mp hshort
    by_cases hi : i < n
    · rw [Nat.div_eq_of_lt hi, Nat.mod_eq_of_lt hi, List.getD_cons_zero, List.flatten_cons]
      by_cases hlen : i < row.length
      · rw [List.getD_append _ _ _ _ hlen]
      · obtain rfl : rows = [] := by
          by_contra hne
          rw [List.dropLast_cons_of_ne_nil hne] at hfull
          exact hlen (hfull row List.mem_cons_self ▸ hi)
        simp
    · have hfull' : ∀ row ∈ rows.dropLast, row.length = n := fun r hr =>
        hfull r (by rw [List.dropLast_cons_of_ne_nil (by rintro rfl; simp at hr)]; exact List.mem_cons_of_mem _ hr)
      have hdiv : i / n = (i - n) / n + 1 := by rw [Nat.div_eq_sub_div hn (by omega)]
      rw [hdiv, List.getD_cons_succ, Nat.mod_eq_sub_mod (by omega), ih hfull' hrows, List.flatten_cons]
      by_cases hne : rows = []
      · subst hne
        rw [List.flatten_nil, List.append_nil, List.getD_nil, List.getD_eq_default _ _ (by omega)]
      · have hlen : row.length = n := hfull row (by rw [List.dropLast_cons_of_ne_nil hne]; exact List.mem_cons_self)
        rw [List.getD_append_right _ _ _ _ (by omega), hlen]

theorem waveRows_dropLast_length : ∀ row ∈ waveRows.dropLast, row.length = 20 := by decide

theorem waveRows_length_le : ∀ row ∈ waveRows, row.length ≤ 20 := by decide

theorem waveListed_eq_getD (i : Nat) : waveListed i = waveRows.flatten.getD i 0 :=
  getD_getD_eq_flatten_getD (by decide) waveRows waveRows_dropLast_length waveRows_length_le i

theorem waveRows_flatten_length : waveRows.flatten.length = 1801 := by
  rw [List.length_flatten]
  decide

theorem isChain_of_forall_mem_zip_tail {α : Type} {R : α → α → Prop} {l : List α}
    (h : ∀ p ∈ l.zip l.tail, R p.1 p.2) : l.IsChain R := by
  rw [List.isChain_iff_getElem]
  intro i hi
  have hzip : i < (l.zip l.tail).length := by rw [List.length_zip, List.length_tail]; omega
  have hmem := h _ (List.getElem_mem hzip)
  rwa [List.getElem_zip, List.getElem_tail] at hmem

theorem waveRows_descend_within : ∀ row ∈ waveRows, ∀ p ∈ row.zip row.tail, p.1 ≥ p.2 := by decide

theorem waveRows_descend_across :
    ∀ p ∈ waveRows.zip waveRows.tail, ∀ x ∈ p.1.getLast?, ∀ y ∈ p.2.head?, x ≥ y := by decide

theorem waveRows_descend : waveRows.flatten.IsChain (· ≥ ·) :=
  (List.isChain_flatten (by decide)).mpr
    ⟨fun row hrow => isChain_of_forall_mem_zip_tail (waveRows_descend_within row hrow),
      isChain_of_forall_mem_zip_tail waveRows_descend_across⟩

/-- The listing falls (20 R75, W4). -/
theorem waveListed_succ_le {i : Nat} (hi : i < 1800) : waveListed (i + 1) ≤ waveListed i := by
  have hlen : i + 1 < waveRows.flatten.length := by rw [waveRows_flatten_length]; omega
  have h := List.isChain_iff_getElem.mp waveRows_descend i hlen
  rwa [waveListed_eq_getD, waveListed_eq_getD, List.getD_eq_getElem _ _ hlen, List.getD_eq_getElem _ _ (by omega)]

/-! ### W2 to W5 -/

theorem waveEntry_of_le {i : Nat} (hi : i ≤ 1800) : waveEntry i = waveListed i := by
  rw [waveEntry, Nat.mod_eq_of_lt (by omega), if_pos hi]

theorem waveEntry_add_period (i : Nat) : waveEntry (i + 3600) = waveEntry i := by
  rw [waveEntry, waveEntry, Nat.add_mod_right]

/-- W3 in both of its forms: the cycle is symmetric about its middle. -/
theorem waveEntry_mirror {d : Nat} (hd : d ≤ 1800) : waveEntry (1800 + d) = waveEntry (1800 - d) := by
  rw [waveEntry_of_le (i := 1800 - d) (by omega), waveEntry]
  split <;> exact congrArg waveListed (by omega)

theorem waveEntry_sub {i : Nat} (hi : i ≤ 3600) : waveEntry (3600 - i) = waveEntry i := by
  obtain h | h := le_total i 1800
  · have hm := waveEntry_mirror (d := 1800 - i) (by omega)
    rwa [show 1800 + (1800 - i) = 3600 - i by omega, show 1800 - (1800 - i) = i by omega] at hm
  · have hm := waveEntry_mirror (d := i - 1800) (by omega)
    rwa [show 1800 + (i - 1800) = i by omega, show 1800 - (i - 1800) = 3600 - i by omega, eq_comm] at hm

theorem waveEntry_zero : waveEntry 0 = 4000 := rfl

theorem waveEntry_half : waveEntry 1800 = 0 := by
  rw [waveEntry_of_le le_rfl]
  decide

theorem waveEntry_falls {i : Nat} (hi : i < 1800) : waveEntry (i + 1) ≤ waveEntry i := by
  rw [waveEntry_of_le hi, waveEntry_of_le hi.le]
  exact waveListed_succ_le hi

theorem waveEntry_rises {i : Nat} (h : 1800 ≤ i) (hi : i < 3600) : waveEntry i ≤ waveEntry (i + 1) := by
  rw [← waveEntry_sub hi.le, ← waveEntry_sub (Nat.succ_le_of_lt hi)]
  have hfall := waveEntry_falls (i := 3600 - (i + 1)) (by omega)
  rwa [show 3600 - (i + 1) + 1 = 3600 - i by omega] at hfall

theorem hardware_admissible : hardware.Admissible where
  waveBound i _ := waveEntry_le i
  wavePeriodic i _ := by rw [hardware_phaseMod, hardware_wave, hardware_wave, waveEntry_add_period]
  waveSymmetric _ hi := waveEntry_sub hi
  waveSymmetricHalf _ hd := waveEntry_mirror hd
  waveFalls _ hi := waveEntry_falls hi
  waveRises _ h hi := waveEntry_rises h hi
  waveMax i _ := (waveEntry_le i).trans waveEntry_zero.ge
  waveMin i _ := waveEntry_half.le.trans (Nat.zero_le _)
  rampLinear := ⟨0, 1, one_pos, fun i _ => by rw [hardware_ramp, Nat.zero_add, Nat.one_mul]⟩
  rampEnds := rfl
  phaseFits := by decide
  cruiseFits := by decide
  phaseWidth := by decide
  dutyWidth := by decide
  rampWidth := by decide
  curWidth := by decide

/-- Settles O39. -/
theorem tablesAreAdmissible : Obligations.TablesAreAdmissible := by
  unfold Obligations.TablesAreAdmissible
  exact hardware_admissible

/-! ### The check sums (20 R76) -/

/-- The sum of the first `n` entries of a list, each times the weight of its index, the first index being `k`. -/
def weigh (g : Nat → Nat) : Nat → Nat → List Nat → Nat
  | _, _, [] => 0
  | _, 0, _ => 0
  | k, n + 1, v :: vs => g k * v + weigh g (k + 1) n vs

/-- The same of rows put end to end. -/
def weighRows (g : Nat → Nat) : Nat → Nat → List (List Nat) → Nat
  | _, _, [] => 0
  | k, n, row :: rows => weigh g k n row + weighRows g (k + row.length) (n - row.length) rows

theorem weigh_nil (g : Nat → Nat) (k n : Nat) : weigh g k n [] = 0 := by cases n <;> rfl

theorem weigh_zero (g : Nat → Nat) (k : Nat) (vs : List Nat) : weigh g k 0 vs = 0 := by cases vs <;> rfl

theorem weigh_eq_sum (g : Nat → Nat) (k n : Nat) (vs : List Nat) :
    weigh g k n vs = ∑ i ∈ range n, g (k + i) * vs.getD i 0 := by
  induction vs generalizing k n with
  | nil => simp [weigh_nil]
  | cons v vs ih =>
    cases n with
    | zero => rfl
    | succ n =>
      rw [weigh, ih, Finset.sum_range_succ', List.getD_cons_zero, Nat.add_zero, Nat.add_comm]
      refine congrArg (· + g k * v) (Finset.sum_congr rfl fun i _ => ?_)
      rw [List.getD_cons_succ, Nat.add_right_comm, Nat.add_assoc]

theorem weigh_append (g : Nat → Nat) (k n : Nat) (vs ws : List Nat) :
    weigh g k n (vs ++ ws) = weigh g k n vs + weigh g (k + vs.length) (n - vs.length) ws := by
  induction vs generalizing k n with
  | nil => simp [weigh_nil]
  | cons v vs ih =>
    cases n with
    | zero => simp [weigh_zero]
    | succ n =>
      rw [List.cons_append, weigh, weigh, ih, List.length_cons, Nat.add_sub_add_right, ← Nat.add_assoc,
        Nat.add_right_comm k, ← Nat.add_assoc]

theorem weigh_flatten (g : Nat → Nat) (k n : Nat) (rows : List (List Nat)) :
    weigh g k n rows.flatten = weighRows g k n rows := by
  induction rows generalizing k n with
  | nil => exact weigh_nil g k n
  | cons row rows ih => rw [List.flatten_cons, weigh_append, ih, weighRows]

/-- A weighted sum over the first half cycle is one over the rows of the listing. -/
theorem sum_waveEntry_eq_weighRows (g : Nat → Nat) {n : Nat} (hn : n ≤ 1801) :
    ∑ i ∈ range n, g i * waveEntry i = weighRows g 0 n waveRows := by
  rw [← weigh_flatten, weigh_eq_sum]
  refine Finset.sum_congr rfl fun i hi => ?_
  have hlt := Finset.mem_range.mp hi
  rw [Nat.zero_add, waveEntry_of_le (by omega), waveListed_eq_getD]

theorem sum_waveEntry_1801 : ∑ i ∈ range 1801, waveEntry i = 3602000 := by
  have h := sum_waveEntry_eq_weighRows (fun _ => 1) (n := 1801) le_rfl
  simp only [one_mul] at h
  rw [h]
  decide

theorem sum_waveEntry_1057 : ∑ i ∈ range 1057, waveEntry i = 3218440 := by
  have h := sum_waveEntry_eq_weighRows (fun _ => 1) (n := 1057) (by decide)
  simp only [one_mul] at h
  rw [h]
  decide

theorem sum_mul_waveEntry_1801 : (∑ i ∈ range 1801, i * waveEntry i) % 65521 = 25380 := by
  rw [sum_waveEntry_eq_weighRows (fun i => i) le_rfl]
  decide

theorem sum_waveEntry_1800 : ∑ i ∈ range 1800, waveEntry i = 3602000 := by
  have h := sum_waveEntry_1801
  rwa [Finset.sum_range_succ, waveEntry_half, Nat.add_zero] at h

/-- What stands past the middle of a cycle completes, by W3, what stands before it. -/
theorem sum_waveEntry_past_half {k : Nat} (hk : k ≤ 1800) :
    ∑ i ∈ range k, waveEntry (1801 + i) + ∑ i ∈ range (1800 - k), waveEntry i = 3602000 := by
  induction k with
  | zero => rw [Finset.sum_range_zero, Nat.zero_add]; exact sum_waveEntry_1800
  | succ k ih =>
    have hmirror : waveEntry (1801 + k) = waveEntry (1800 - (k + 1)) := by
      rw [← waveEntry_mirror hk]
      congr 1
      omega
    have hprev := ih (by omega)
    rw [show 1800 - k = 1800 - (k + 1) + 1 by omega, Finset.sum_range_succ] at hprev
    rw [Finset.sum_range_succ, hmirror]
    omega

theorem sum_waveEntry_3600 : ∑ i ∈ range 3600, waveEntry i = 7200000 := by
  have h := sum_waveEntry_past_half (k := 1799) (by decide)
  rw [show 1800 - 1799 = 1 from rfl, Finset.sum_range_one, waveEntry_zero] at h
  rw [show 3600 = 1801 + 1799 from rfl, Finset.sum_range_add, sum_waveEntry_1801, Nat.eq_sub_of_add_eq h]

theorem sum_waveEntry_6144 : ∑ i ∈ range 6144, waveEntry i = 11185560 := by
  have h := sum_waveEntry_past_half (k := 743) (by decide)
  rw [show 1800 - 743 = 1057 from rfl, sum_waveEntry_1057] at h
  have hperiod : ∑ i ∈ range 2544, waveEntry (3600 + i) = ∑ i ∈ range (1801 + 743), waveEntry i :=
    Finset.sum_congr rfl fun i _ => by rw [Nat.add_comm, waveEntry_add_period]
  rw [show 6144 = 3600 + 2544 from rfl, Finset.sum_range_add, sum_waveEntry_3600, hperiod, Finset.sum_range_add,
    sum_waveEntry_1801, Nat.eq_sub_of_add_eq h]
  norm_num

theorem foldl_range_eq_sum (g : Nat → Nat) (n : Nat) :
    (List.range n).foldl (fun acc i => acc + g i) 0 = ∑ i ∈ range n, g i := by
  induction n with
  | zero => rfl
  | succ n ih => rw [List.range_succ, List.foldl_append, ih, Finset.sum_range_succ]; rfl

/-- Settles O40: the first and the last sum are over the rows of the listing, the other two follow by W3 and W2. -/
theorem waveTableSums : Obligations.WaveTableSums := by
  unfold Obligations.WaveTableSums
  simp only [foldl_range_eq_sum, hardware_wave]
  exact ⟨sum_waveEntry_1801, sum_waveEntry_3600, sum_waveEntry_6144, sum_mul_waveEntry_1801⟩

end Sys2Proof.Machine
end

section
/-! The invariants of an axis (10 R49): each helper of a stage action keeps them for any admissible tables, so each
stage action does. -/

namespace Sys2Proof.Machine

section Invariant

/-! ### The helpers -/

variable {c : Config} {a : AxisState} (hc : c.Admissible) (h : a.Inv c)

theorem offsetA_le (c : Config) (rev : Bool) : offsetA c rev ≤ c.off240 := by
  unfold offsetA Config.off120 Config.off240
  split <;> omega

theorem offsetB_le (c : Config) (rev : Bool) : offsetB c rev ≤ c.off240 := by
  unfold offsetB Config.off120 Config.off240
  split <;> omega

include hc h

/-- A phase within the invariant, moved by at most `OFF_240`, is an index of the table (20 R77). -/
theorem index_lt_lutLen {off : Nat} (hoff : off ≤ c.off240) : a.phaseAngle.toNat + off < c.lutLen := by
  have hphase := h.phase
  have hfits := hc.phaseFits
  unfold Config.off240 at hoff
  omega

theorem duty_le_dutyMax {cur : BitVec 7} (hcur : cur.toNat ≤ c.curOne) {off : Nat} (hoff : off ≤ c.off240) :
    (duty c cur (a.phaseAngle.toNat + off)).toNat ≤ c.dutyMax :=
  duty_le c cur _ hcur (hc.waveBound _ (index_lt_lutLen hc h hoff)) hc.curWidth.1 hc.dutyWidth

theorem writeDuty_inv (rev : Bool) {cur : BitVec 7} (hcur : cur.toNat ≤ c.curOne) : (writeDuty c rev cur a).Inv c :=
  { h with
    ccr0 := duty_le_dutyMax hc h hcur (Nat.zero_le _)
    ccr1 := duty_le_dutyMax hc h hcur (offsetA_le c rev)
    ccr2 := duty_le_dutyMax hc h hcur (offsetB_le c rev) }

theorem advance_inv (d : Int) : (advance c d a).Inv c :=
  { h with phase := advance_phase_lt c d a (Nat.zero_lt_of_lt h.phase) hc.phaseWidth }

theorem complete_inv (rev : Bool) (b : Nat) : (complete c rev b a).Inv c := by
  have hcleared : AxisState.Inv c { a with motionFlags := clearStageBit a.motionFlags b } := { h with phase := h.phase }
  obtain ⟨-, he⟩ | ⟨-, he⟩ := complete_cases c rev b a <;> rw [he]
  · exact writeDuty_inv hc hcleared rev h.drop
  · exact hcleared

theorem pointerUp_le : (pointerUp c a.spinPointer).toNat ≤ c.rampTop := by
  have hpointer := h.pointer
  have hwidth := hc.rampWidth
  rw [pointerUp_toNat c _ (by unfold Config.rampTop; omega)]
  split <;> omega

omit hc in
theorem pointerDown_le : (pointerDown a.spinPointer).toNat ≤ c.rampTop := by
  rw [pointerDown_toNat]
  exact (Nat.sub_le _ 1).trans h.pointer

omit hc h in
/-- A sub-count that has not reached its period stays below the largest period, 255. -/
theorem subcount_le {n p : BitVec 8} (hlt : n.toNat + 1 < p.toNat) : (n + 1#8).toNat ≤ 254 := by
  bv_omega

theorem spinCountUp_inv (rev : Bool) (sp : BitVec 8) (b : Nat) : (spinCountUp c rev sp b a).Inv c := by
  have hramped : AxisState.Inv c { a with spinSubcount := 0#8, spinPointer := pointerUp c a.spinPointer } :=
    { h with pointer := pointerUp_le hc h, spinSub := Nat.zero_le _ }
  obtain ⟨hlt, he⟩ | ⟨-, -, he⟩ | ⟨-, -, he⟩ := spinCountUp_cases c rev sp b a <;> rw [he]
  · exact { h with spinSub := subcount_le hlt }
  · exact hramped
  · exact complete_inv hc hramped rev b

theorem spinCountDown_inv (rev : Bool) (sp : BitVec 8) (b : Nat) : (spinCountDown c rev sp b a).Inv c := by
  have hramped : AxisState.Inv c { a with spinSubcount := 0#8, spinPointer := pointerDown a.spinPointer } :=
    { h with pointer := pointerDown_le h, spinSub := Nat.zero_le _ }
  obtain ⟨hlt, he⟩ | ⟨-, -, he⟩ | ⟨-, -, he⟩ := spinCountDown_cases c rev sp b a <;> rw [he]
  · exact { h with spinSub := subcount_le hlt }
  · exact hramped
  · exact complete_inv hc hramped rev b

omit h in
/-- The scalar 1.0 fits the register that holds it (92 D3). -/
theorem fullCurrent_toNat : (fullCurrent c).toNat = c.curOne := Nat.mod_eq_of_lt hc.curWidth.2

theorem bumpCwCreep_inv : (bumpCwCreep c a).Inv c := by
  unfold bumpCwCreep
  split
  · exact { h with cwOp := (fullCurrent_toNat hc).le }
  · exact h

theorem bumpCcwCreep_inv : (bumpCcwCreep c a).Inv c := by
  unfold bumpCcwCreep
  split
  · exact { h with ccwOp := (fullCurrent_toNat hc).le }
  · exact h

theorem cwCreepCount_inv (rev : Bool) : (cwCreepCount c rev a).Inv c := by
  have hcounted : AxisState.Inv c { a with cwCreepSteps := a.cwCreepSteps - 1#32 } := { h with phase := h.phase }
  unfold cwCreepCount
  split
  · exact complete_inv hc hcounted rev 0
  · exact hcounted

theorem ccwCreepCount_inv (rev : Bool) : (ccwCreepCount c rev a).Inv c := by
  have hcounted : AxisState.Inv c { a with ccwCreepSteps := a.ccwCreepSteps - 1#32 } := { h with phase := h.phase }
  unfold ccwCreepCount
  split
  · exact complete_inv hc hcounted rev 1
  · exact hcounted

/-! ### The stage actions -/

theorem spinUpTick_inv (rev : Bool) (sp : BitVec 8) (sgn : Int) (b : Nat) : (spinUpTick c rev sp sgn b a).Inv c :=
  spinCountUp_inv hc (writeDuty_inv hc (advance_inv hc h _) rev h.spinup) rev sp b

theorem spinDownTick_inv (rev : Bool) (sp : BitVec 8) (sgn : Int) (b : Nat) : (spinDownTick c rev sp sgn b a).Inv c :=
  spinCountDown_inv hc (writeDuty_inv hc (advance_inv hc h _) rev h.spindown) rev sp b

theorem cruiseTick_inv (rev : Bool) (sgn : Int) (b : Nat) : (cruiseTick c rev sgn b a).Inv c := by
  have hmoved := writeDuty_inv hc (advance_inv hc h (sgn * (c.cruiseInc : Int))) rev h.cruise
  have hcounted : AxisState.Inv c { writeDuty c rev a.curCruise (advance c (sgn * (c.cruiseInc : Int)) a) with
      cruiseSteps := a.cruiseSteps - 1#32 } := { hmoved with phase := hmoved.phase }
  obtain ⟨-, he⟩ | ⟨-, -, he⟩ | ⟨-, -, he⟩ := cruiseTick_cases c rev sgn b a <;> rw [he]
  · exact complete_inv hc h rev b
  · exact hcounted
  · exact complete_inv hc hcounted rev b

theorem cwCreep_inv (rev : Bool) : (cwCreep c rev a).Inv c := by
  have hbumped := bumpCwCreep_inv hc h
  obtain ⟨-, he⟩ | ⟨-, hwait, he⟩ | ⟨-, -, he⟩ := cwCreep_cases c rev a <;> rw [he]
  · exact complete_inv hc h rev 0
  · refine writeDuty_inv hc ?_ rev hbumped.cwOp
    exact { hbumped with creepSub := subcount_le hwait }
  · refine cwCreepCount_inv hc (writeDuty_inv hc (advance_inv hc ?_ _) rev hbumped.cwOp) rev
    exact { hbumped with creepSub := Nat.zero_le _ }

theorem ccwCreep_inv (rev : Bool) : (ccwCreep c rev a).Inv c := by
  have hbumped := bumpCcwCreep_inv hc h
  obtain ⟨-, he⟩ | ⟨-, hwait, he⟩ | ⟨-, -, he⟩ := ccwCreep_cases c rev a <;> rw [he]
  · exact complete_inv hc h rev 1
  · refine writeDuty_inv hc ?_ rev hbumped.ccwOp
    exact { hbumped with creepSub := subcount_le hwait }
  · refine ccwCreepCount_inv hc (writeDuty_inv hc (advance_inv hc ?_ _) rev hbumped.ccwOp) rev
    exact { hbumped with creepSub := Nat.zero_le _ }

theorem stageAction_inv (rev : Bool) (sp : BitVec 8) (st : Stage) : (stageAction c rev sp st a).Inv c := by
  cases st with
  | cwSpinup => exact spinUpTick_inv hc h rev sp 1 7
  | cwCruise => exact cruiseTick_inv hc h rev 1 6
  | cwSpindown => exact spinDownTick_inv hc h rev sp 1 5
  | ccwSpinup => exact spinUpTick_inv hc h rev sp (-1) 4
  | ccwCruise => exact cruiseTick_inv hc h rev (-1) 3
  | ccwSpindown => exact spinDownTick_inv hc h rev sp (-1) 2
  | ccwCreep => exact ccwCreep_inv hc h rev
  | cwCreep => exact cwCreep_inv hc h rev
  | idle => exact h

end Invariant

/-- Settles O14: an axis tick is a stage action. -/
theorem invariantKeptForAnyTables : Obligations.InvariantKeptForAnyTables := by
  unfold Obligations.InvariantKeptForAnyTables
  intro c rev sp a hc h
  exact stageAction_inv hc h rev sp (decodeStage a.motionFlags)

theorem reset_inv : AxisState.reset.Inv hardware := by constructor <;> decide

/-- Settles O12: both axes reset to `AxisState.reset`. -/
theorem invariantAtReset : Obligations.InvariantAtReset := by
  unfold Obligations.InvariantAtReset
  intro m
  rw [State.reset_axis]
  exact reset_inv

end Sys2Proof.Machine
end

section
/-! HOST words (30 R106 to R111): the row of a word is that of its address, and the word is the code of its row. -/

namespace Sys2Proof

open Sys2Proof.Machine Sys2Proof.Claim

/-! ### The rows of the register map -/

theorem wellFormed_of_mem_writeRows {d : Data} {row : HostAddr × Instr} (h : row ∈ writeRows d) :
    row.2.wellFormed = true := by
  have hall : (writeRows d).all (fun row => row.2.wellFormed) = true := rfl
  exact List.all_eq_true.mp hall row h

/-- The code of a row's instruction is the write of its data to the row's address. -/
theorem encode_of_mem_writeRows {d : Data} {row : HostAddr × Instr} (h : row ∈ writeRows d) :
    encode row.2 = .host (writeWord row.1 d) := by
  have hcodes : (writeRows d).map (fun row => encode row.2) =
      (writeRows d).map (fun row => Code.host (writeWord row.1 d)) := rfl
  exact List.map_inj_left.mp hcodes row h

theorem decodeHost_of_mem_writeRows {addr : HostAddr} {d : Data} {i : Instr} (h : (addr, i) ∈ writeRows d) :
    decodeHost (writeWord addr d) = i :=
  decodeHost_of_encode (wellFormed_of_mem_writeRows h) (encode_of_mem_writeRows h)

/-- The addresses of the rows do not depend on the data. -/
theorem writeRows_addresses (d : Data) : (writeRows d).map Prod.fst = (writeRows 0#32).map Prod.fst := rfl

theorem not_writable_of_notMem_writeRows {addr : HostAddr} {d : Data} (h : addr ∉ (writeRows d).map Prod.fst) :
    writableGlobal addr = false ∧ writableAxis addr = false := by
  rw [writeRows_addresses] at h
  revert addr
  decide

theorem decodeHost_of_notMem_writeRows {addr : HostAddr} {d : Data} (h : addr ∉ (writeRows d).map Prod.fst) :
    decodeHost (writeWord addr d) = .wrIgnored addr d := by
  obtain ⟨hglobal, haxis⟩ := not_writable_of_notMem_writeRows h
  exact decodeHost_writeWord_ignored hglobal haxis d

theorem decodeHost_of_isRead {w : HostWord} {addr : HostAddr} {d : Data} (h : IsRead w addr d) :
    decodeHost w = .rd addr := by
  have haddr : hostAddr w = addr := by
    apply BitVec.eq_of_toNat_eq
    rw [hostAddr_toNat, h]
    omega
  have hwrite : hostWrite w = false := by
    rw [hostWrite_eq, decide_eq_false_iff_not, h]
    omega
  rw [decodeHost, hwrite, haddr]
  rfl

/-- Settles O4: a write word by whether its address has a row, a read word by its fields. -/
theorem hostWordsFollowTheRegisterMap : Obligations.HostWordsFollowTheRegisterMap := by
  unfold Obligations.HostWordsFollowTheRegisterMap
  intro w addr d
  refine ⟨fun hw => ?_, decodeHost_of_isRead⟩
  obtain rfl := (isWrite_iff w addr d).mp hw
  exact ⟨fun i => decodeHost_of_mem_writeRows, decodeHost_of_notMem_writeRows⟩

/-! ### A HOST word is the code of its row -/

theorem wellFormed_wrIgnored_iff (addr : HostAddr) (d : Data) :
    (Instr.wrIgnored addr d).wellFormed = true ↔ writableGlobal addr = false ∧ writableAxis addr = false := by
  simp [Instr.wellFormed]

theorem decodeHost_writeWord_wellFormed_and_encode (addr : HostAddr) (d : Data) :
    (decodeHost (writeWord addr d)).wellFormed = true ∧
      encode (decodeHost (writeWord addr d)) = .host (writeWord addr d) := by
  by_cases h : addr ∈ (writeRows d).map Prod.fst
  · obtain ⟨⟨addr', i⟩, hrow, rfl⟩ := List.mem_map.mp h
    rw [decodeHost_of_mem_writeRows hrow]
    exact ⟨wellFormed_of_mem_writeRows hrow, encode_of_mem_writeRows hrow⟩
  · rw [decodeHost_of_notMem_writeRows h]
    exact ⟨(wellFormed_wrIgnored_iff addr d).mpr (not_writable_of_notMem_writeRows h), rfl⟩

/-- A word with `W = 0` is a read of its address field; its data field is lost (30 R106). -/
theorem isRead_of_not_hostWrite {w : HostWord} (h : w.getLsbD 39 = false) : IsRead w (hostAddr w) (hostData w) := by
  have hwrite := hostWrite_eq w
  rw [hostWrite, h, eq_comm, decide_eq_false_iff_not] at hwrite
  rw [IsRead, hostAddr_toNat, hostData_toNat]
  omega

/-- Settles O2: a write word is the code of its address' row, a read word that of `RD` but for the data field. -/
theorem encodeDecodeHostWord : Obligations.EncodeDecodeHostWord := by
  unfold Obligations.EncodeDecodeHostWord
  intro w
  cases hw : w.getLsbD 39 with
  | true =>
    obtain ⟨hwf, hcode⟩ := decodeHost_writeWord_wellFormed_and_encode (hostAddr w) (hostData w)
    rw [writeWord_fields w hw] at hwf hcode
    exact ⟨hwf, fun _ => hcode, nofun⟩
  | false =>
    have hread := isRead_of_not_hostWrite hw
    rw [decodeHost_of_isRead hread]
    refine ⟨rfl, nofun, fun _ => ⟨_, rfl, ?_⟩⟩
    rw [readWord_toNat, hread]
    omega

/-- What a HOST word decodes to has a HOST code, so it is no stage action and no tick. -/
theorem exists_encode_decodeHost (w : HostWord) : ∃ w', encode (decodeHost w) = .host w' := by
  obtain ⟨-, hwrite, hread⟩ := encodeDecodeHostWord w
  cases hw : w.getLsbD 39 with
  | true => exact ⟨w, hwrite hw⟩
  | false =>
    obtain ⟨w', h, -⟩ := hread hw
    exact ⟨w', h⟩

theorem decodeHost_ne_tick (w : HostWord) : decodeHost w ≠ .tick := by
  intro h
  obtain ⟨w', hcode⟩ := exists_encode_decodeHost w
  rw [h] at hcode
  cases hcode

theorem decodeHost_ne_stageInstr (w : HostWord) (m : Axis) (st : Stage) : decodeHost w ≠ stageInstr m st := by
  intro h
  obtain ⟨w', hcode⟩ := exists_encode_decodeHost w
  rw [h] at hcode
  cases st <;> cases hcode

end Sys2Proof
end

section
/-! Who writes what (10 R50), and the invariants along every step (10 R49): an instruction of the host or of its command
layer leaves the engine's part of each axis and may set a current, to at most 1.00; a turn is such a change, a tick or a
reset. -/

namespace Sys2Proof.Machine

open Sys2Proof.Claim

/-! ### What the host can do to an axis -/

/-- A current register after an operation of the host: as it was, or clamped by a write (42 R190). -/
def CurrentKeptOrClamped (cur cur' : BitVec 7) : Prop := cur' = cur ∨ cur'.toNat ≤ 100

/-- All an operation of the host can do to an axis. -/
structure HostChange (a b : AxisState) : Prop where
  /-- The engine's registers are as they were. -/
  engine : a.sameEngineOwned b
  /-- The configured currents. -/
  spinup : CurrentKeptOrClamped a.curSpinup b.curSpinup
  /-- See `spinup`. -/
  cruise : CurrentKeptOrClamped a.curCruise b.curCruise
  /-- See `spinup`. -/
  spindown : CurrentKeptOrClamped a.curSpindown b.curSpindown
  /-- See `spinup`. -/
  creep : CurrentKeptOrClamped a.curCreep b.curCreep
  /-- See `spinup`. -/
  drop : CurrentKeptOrClamped a.curDrop b.curDrop

theorem currentKept (cur : BitVec 7) : CurrentKeptOrClamped cur cur := .inl rfl

theorem currentClamped (cur : BitVec 7) (data : Data) : CurrentKeptOrClamped cur (clampCurrent data) :=
  .inr (by rw [clampCurrent_toNat]; exact min_le_right _ _)

theorem AxisState.sameEngineOwned_refl (a : AxisState) : a.sameEngineOwned a :=
  ⟨rfl, rfl, rfl, rfl, rfl, rfl, rfl, rfl, rfl, rfl⟩

theorem hostChange_refl (a : AxisState) : HostChange a a :=
  ⟨a.sameEngineOwned_refl, currentKept _, currentKept _, currentKept _, currentKept _, currentKept _⟩

theorem CurrentKeptOrClamped.le {cur cur' : BitVec 7} (h : CurrentKeptOrClamped cur cur') (hcur : cur.toNat ≤ 100) :
    cur'.toNat ≤ 100 := by
  obtain rfl | hle := h
  · exact hcur
  · exact hle

theorem HostChange.inv {a b : AxisState} (h : HostChange a b) (ha : a.Inv hardware) : b.Inv hardware := by
  obtain ⟨hengine, hspinup, hcruise, hspindown, hcurCreep, hdrop⟩ := h
  obtain ⟨hphase, -, hpointer, hspin, hcreep, hcw, hccw, h0, h1, h2⟩ := hengine
  exact {
    phase := hphase ▸ ha.phase
    pointer := hpointer ▸ ha.pointer
    spinSub := hspin ▸ ha.spinSub
    creepSub := hcreep ▸ ha.creepSub
    spinup := hspinup.le ha.spinup
    cruise := hcruise.le ha.cruise
    spindown := hspindown.le ha.spindown
    creep := hcurCreep.le ha.creep
    drop := hdrop.le ha.drop
    cwOp := hcw ▸ ha.cwOp
    ccwOp := hccw ▸ ha.ccwOp
    ccr0 := h0 ▸ ha.ccr0
    ccr1 := h1 ▸ ha.ccr1
    ccr2 := h2 ▸ ha.ccr2 }

/-! ### What the host can do to the machine -/

/-- All an operation of the host or of the command layer can do to what the engine, the timer and the agents own. -/
structure HostStep (s t : State) : Prop where
  /-- Each axis. -/
  axis : ∀ m, HostChange (s.axis m) (t.axis m)
  /-- `UIF`. -/
  uif : t.uif = s.uif
  /-- `CNT`. -/
  cnt : t.cnt = s.cnt
  /-- The turns to come. -/
  turns : t.turns = s.turns

theorem hostStep_of_axes_eq {s t : State} (h0 : t.ax0 = s.ax0) (h1 : t.ax1 = s.ax1) (huif : t.uif = s.uif)
    (hcnt : t.cnt = s.cnt) (hturns : t.turns = s.turns) : HostStep s t where
  axis m := by
    cases m with
    | zero => rw [State.axis_zero, State.axis_zero, h0]; exact hostChange_refl s.ax0
    | one => rw [State.axis_one, State.axis_one, h1]; exact hostChange_refl s.ax1
  uif := huif
  cnt := hcnt
  turns := hturns

theorem hostStep_setAxis (s : State) {m : Axis} {a : AxisState} (h : HostChange (s.axis m) a) :
    HostStep s (s.setAxis m a) where
  axis m' := by
    by_cases hm : m' = m
    · subst hm
      rwa [State.setAxis_axis_self]
    · rw [State.setAxis_axis_ne _ _ _ _ hm]
      exact hostChange_refl _
  uif := State.setAxis_uif ..
  cnt := State.setAxis_cnt ..
  turns := State.setAxis_turns ..

theorem hostStep_issue (ws : List HostWord) (s : State) : HostStep s (issue ws s) :=
  hostStep_of_axes_eq rfl rfl rfl rfl rfl

theorem hostStep_handle (s : State) (c : Command) : HostStep s (handle s c) := by
  obtain ⟨ws, h⟩ := handle_issues s c
  rw [h]
  exact hostStep_issue ws s

theorem hostStep_replayTable (s : State) : HostStep s (replayTable s) := by
  obtain ⟨-, h⟩ | ⟨-, ws, -, h⟩ := replayTable_cases s <;> rw [h] <;> exact hostStep_of_axes_eq rfl rfl rfl rfl rfl

/-- The host's half of 10 R50. -/
theorem exec_hostStep {i : Instr} (htick : i ≠ .tick) (hstage : ∀ m st, i ≠ stageInstr m st) (s : State) :
    ∃ t, exec i s = .next t ∧ HostStep s t := by
  have kept := currentKept
  cases i with
  | tick => exact absurd rfl htick
  | cwSpinup m => exact absurd rfl (hstage m .cwSpinup)
  | cwCruise m => exact absurd rfl (hstage m .cwCruise)
  | cwSpindown m => exact absurd rfl (hstage m .cwSpindown)
  | ccwSpinup m => exact absurd rfl (hstage m .ccwSpinup)
  | ccwCruise m => exact absurd rfl (hstage m .ccwCruise)
  | ccwSpindown m => exact absurd rfl (hstage m .ccwSpindown)
  | ccwCreep m => exact absurd rfl (hstage m .ccwCreep)
  | cwCreep m => exact absurd rfl (hstage m .cwCreep)
  | idle m => exact absurd rfl (hstage m .idle)
  | rd | wrTimCtrl | wrTimPeriod | wrCommit | wrSpinPeriod | wrIgnored =>
    exact ⟨_, rfl, hostStep_of_axes_eq rfl rfl rfl rfl rfl⟩
  | wrShadowFlags m d | wrCruiseSteps m d | wrCwCreepSteps m d | wrCcwCreepSteps m d | wrCreepPeriod m d | wrBump m d =>
    exact ⟨_, rfl, hostStep_setAxis s ⟨(s.axis m).sameEngineOwned_refl, kept _, kept _, kept _, kept _, kept _⟩⟩
  | wrCurSpinup m d =>
    exact ⟨_, rfl, hostStep_setAxis s
      ⟨(s.axis m).sameEngineOwned_refl, currentClamped _ d, kept _, kept _, kept _, kept _⟩⟩
  | wrCurCruise m d =>
    exact ⟨_, rfl, hostStep_setAxis s
      ⟨(s.axis m).sameEngineOwned_refl, kept _, currentClamped _ d, kept _, kept _, kept _⟩⟩
  | wrCurSpindown m d =>
    exact ⟨_, rfl, hostStep_setAxis s
      ⟨(s.axis m).sameEngineOwned_refl, kept _, kept _, currentClamped _ d, kept _, kept _⟩⟩
  | wrCurCreep m d =>
    exact ⟨_, rfl, hostStep_setAxis s
      ⟨(s.axis m).sameEngineOwned_refl, kept _, kept _, kept _, currentClamped _ d, kept _⟩⟩
  | wrCurDrop m d =>
    exact ⟨_, rfl, hostStep_setAxis s
      ⟨(s.axis m).sameEngineOwned_refl, kept _, kept _, kept _, kept _, currentClamped _ d⟩⟩
  | cmd2SetCurrents | cmd3SetPeriods => exact ⟨_, rfl, hostStep_issue _ s⟩
  | cmd4QueueMove select c1 c2 c3 p4 p5 => exact ⟨_, rfl, hostStep_handle s (.queueMove select c1 c2 c3 p4 p5)⟩
  | cmd7Execute => exact ⟨_, rfl, hostStep_replayTable s⟩

/-- Settles O17. -/
theorem hostNeverWritesEngineState : Obligations.HostNeverWritesEngineState := by
  unfold Obligations.HostNeverWritesEngineState
  intro i htick hstage s
  obtain ⟨t, ht, haxis, huif, hcnt, -⟩ := exec_hostStep htick hstage s
  exact ⟨t, ht, fun m => (haxis m).engine, huif, hcnt⟩

/-! ### What a turn can do -/

theorem portTurn_hostStep {s u : State} (h : portTurn s = .next u) : HostStep s u := by
  obtain ⟨-, hport⟩ | ⟨w, ws, -, hport⟩ := portTurn_cases s <;> rw [hport] at h
  · cases h
    exact hostStep_of_axes_eq rfl rfl rfl rfl rfl
  · obtain ⟨t, ht, haxis, huif, hcnt, hturns⟩ :=
      exec_hostStep (decodeHost_ne_tick w) (decodeHost_ne_stageInstr w) { s with hostQueue := ws }
    cases ht.symm.trans h
    exact ⟨fun m => by cases m; exacts [haxis .zero, haxis .one], huif, hcnt, hturns⟩

theorem receiveFrame_hostStep {f : CanFrame} {s u : State} (h : receiveFrame f s = .next u) : HostStep s u := by
  obtain ⟨e, -, hf⟩ | ⟨-, hf⟩ | ⟨c, -, -, hf⟩ := receiveFrame_cases f s <;> cases hf.symm.trans h
  · exact hostStep_of_axes_eq rfl rfl rfl rfl rfl
  · exact hostStep_replayTable s
  · exact hostStep_of_axes_eq rfl rfl rfl rfl rfl

theorem dispatchFrame_hostStep {f : CanFrame} {s u : State} (h : dispatchFrame f s = .next u) : HostStep s u := by
  obtain ⟨e, -, hf⟩ | ⟨-, hf⟩ | ⟨c, -, -, hf⟩ := dispatchFrame_cases f s <;> cases hf.symm.trans h
  · exact hostStep_of_axes_eq rfl rfl rfl rfl rfl
  · exact hostStep_replayTable s
  · obtain ⟨haxis, huif, hcnt, hturns⟩ := hostStep_replayTable { s with moveTable := s.moveTable ++ [c] }
    exact ⟨fun m => by cases m; exacts [haxis .zero, haxis .one], huif, hcnt, hturns⟩

/-- All a turn can do to the axes and to the turns to come. -/
inductive TurnResult (t : Turn) (s u : State) : Prop where
  /-- The turn is no tick: each axis changes at most as the host can change it. -/
  | quiet (axis : ∀ m, HostChange (s.axis m) (u.axis m)) (turns : u.turns = s.turns)
  /-- The handler runs. -/
  | tick (engine : t = .engine) (uie : s.uie = true) (uif : s.uif = true) (next : u = tickHandler s)
  /-- The reset input. -/
  | reset (input : t = .reset) (next : u = resetBlock s)

theorem HostStep.turnResult {t : Turn} {s u : State} (h : HostStep s u) : TurnResult t s u := .quiet h.axis h.turns

theorem turnResult_of_axes_eq {t : Turn} {s u : State} (h0 : u.ax0 = s.ax0) (h1 : u.ax1 = s.ax1)
    (hturns : u.turns = s.turns) : TurnResult t s u := by
  refine .quiet (fun m => ?_) hturns
  cases m with
  | zero => rw [State.axis_zero, State.axis_zero, h0]; exact hostChange_refl s.ax0
  | one => rw [State.axis_one, State.axis_one, h1]; exact hostChange_refl s.ax1

theorem turnResult_timerClock (s : State) : TurnResult .clock s (timerClock s) := by
  obtain ⟨-, h⟩ | ⟨-, -, h⟩ | ⟨-, -, h⟩ := timerClock_cases s <;> rw [h] <;>
    exact turnResult_of_axes_eq rfl rfl rfl

theorem turnResult_untimedEvent (s : State) : TurnResult .event s (untimedEvent s) := by
  unfold untimedEvent
  split <;> exact turnResult_of_axes_eq rfl rfl rfl

theorem turnResult_of_engineTurn {s u : State} (h : engineTurn s = .next u) : TurnResult .engine s u := by
  obtain ⟨huie, huif, he⟩ | ⟨-, he⟩ := engineTurn_cases s <;> cases he.symm.trans h
  · exact .tick rfl huie huif rfl
  · exact turnResult_of_axes_eq rfl rfl rfl

theorem turnResult_of_runTurn {t : Turn} {s u : State} (h : runTurn t s = .next u) : TurnResult t s u := by
  cases t with
  | clock => cases h; exact turnResult_timerClock s
  | event => cases h; exact turnResult_untimedEvent s
  | engine => exact turnResult_of_engineTurn h
  | host w =>
    obtain ⟨haxis, -, -, hturns⟩ := portTurn_hostStep (s := issue [w] s) h
    exact .quiet (fun m => by cases m; exacts [haxis .zero, haxis .one]) hturns
  | port => exact (portTurn_hostStep h).turnResult
  | canReceive f => exact (receiveFrame_hostStep h).turnResult
  | canDispatch f => exact (dispatchFrame_hostStep h).turnResult
  | sync => cases h; exact (hostStep_replayTable s).turnResult
  | rejectTable => cases h; exact turnResult_of_axes_eq rfl rfl rfl
  | reset => cases h; exact .reset rfl rfl

/-! ### Every step keeps the invariants -/

/-- The hand-off copies a configured current (40 R140). -/
theorem handoff_inv {a : AxisState} (h : a.Inv hardware) : (handoff a).Inv hardware :=
  { h with cwOp := h.creep, ccwOp := h.creep }

theorem tickHandler_inv {s : State} (h : s.Inv) : (tickHandler s).Inv := by
  intro m
  have hticked := stageAction_inv hardware_admissible (h m) (s.rev m) s.spinPeriod (decodeStage (s.axis m).motionFlags)
  rw [tickHandler_axis]
  split
  · exact handoff_inv hticked
  · exact hticked

theorem resetBlock_inv (s : State) : (resetBlock s).Inv := by
  intro m
  cases m <;> exact reset_inv

theorem TurnResult.inv {t : Turn} {s u : State} (h : TurnResult t s u) (hs : s.Inv) : u.Inv := by
  cases h with
  | quiet haxis _ => exact fun m => (haxis m).inv (hs m)
  | tick _ _ _ hnext => exact hnext ▸ tickHandler_inv hs
  | reset _ hnext => exact hnext ▸ resetBlock_inv s

/-- Taking a turn out of the list touches no axis. -/
theorem axis_with_turns (s : State) (ts : List Turn) (m : Axis) : State.axis { s with turns := ts } m = s.axis m := by
  cases m <;> rfl

/-- Settles O13: a step is a turn, and a turn is a change by the host, a tick or a reset. -/
theorem invariantKeptByEveryStep : Obligations.InvariantKeptByEveryStep := by
  unfold Obligations.InvariantKeptByEveryStep
  intro s hs t hstep
  cases hturns : s.turns with
  | nil => exact (turnResult_of_runTurn ((step_default s hturns).symm.trans hstep)).inv hs
  | cons turn rest =>
    refine (turnResult_of_runTurn ((step_turn s turn rest hturns).symm.trans hstep)).inv fun m => ?_
    rw [axis_with_turns]
    exact hs m

/-! ### What the engine leaves to the host -/

theorem AxisState.sameHostOwned_refl (a : AxisState) : a.sameHostOwned a := ⟨rfl, rfl, rfl, rfl, rfl, rfl, rfl, rfl⟩

theorem tickHandler_sameHostOwned (s : State) (m : Axis) : (s.axis m).sameHostOwned ((tickHandler s).axis m) := by
  have haction := stageAction_sameHostOwned hardware (s.rev m) s.spinPeriod (decodeStage (s.axis m).motionFlags) (s.axis m)
  rw [tickHandler_axis]
  split
  · exact haction
  · exact haction

theorem setAxis_sameHostOwned (s : State) {m : Axis} {a : AxisState} (h : (s.axis m).sameHostOwned a) (m' : Axis) :
    (s.axis m').sameHostOwned ((s.setAxis m a).axis m') := by
  by_cases hm : m' = m
  · subst hm
    rwa [State.setAxis_axis_self]
  · rw [State.setAxis_axis_ne _ _ _ _ hm]
    exact AxisState.sameHostOwned_refl _

theorem tickHandler_sameUnseen (s : State) : SameUnseen s (tickHandler s) := by
  rw [tickHandler_frame]
  exact ⟨rfl, rfl, rfl, rfl, rfl, rfl, rfl⟩

theorem setAxis_sameUnseen (s : State) (m : Axis) (a : AxisState) : SameUnseen s (s.setAxis m a) := by
  cases m <;> exact ⟨rfl, rfl, rfl, rfl, rfl, rfl, rfl⟩

/-- Settles O18: a tick by its frame and its stage actions, a stage action by what it does to its own axis. -/
theorem engineNeverWritesHostState : Obligations.EngineNeverWritesHostState := by
  unfold Obligations.EngineNeverWritesHostState
  intro i hi s
  obtain rfl | ⟨m, st, rfl⟩ := hi
  · refine ⟨tickHandler s, rfl, tickHandler_sameHostOwned s, ?_, ?_, ?_, ?_, tickHandler_sameUnseen s⟩ <;>
      rw [tickHandler_frame]
  · exact ⟨_, exec_stageInstr m st s, setAxis_sameHostOwned s (stageAction_sameHostOwned _ _ _ _ _),
      State.setAxis_spinPeriod .., State.setAxis_cen .., State.setAxis_uie .., State.setAxis_timPeriod ..,
      setAxis_sameUnseen s m _⟩

/-! ### When the stage word changes -/

theorem HostChange.motionFlags_eq {a b : AxisState} (h : HostChange a b) : b.motionFlags = a.motionFlags := by
  obtain ⟨⟨-, hflags, -⟩, -⟩ := h
  exact hflags.symm

/-- A turn that changes a stage word is the reset input or runs the handler. -/
theorem TurnResult.of_motionFlags_ne {t : Turn} {s u : State} {m : Axis} (h : TurnResult t s u)
    (hne : (u.axis m).motionFlags ≠ (s.axis m).motionFlags) :
    t = .reset ∨ (t = .engine ∧ s.uie = true ∧ s.uif = true) := by
  cases h with
  | quiet haxis _ => exact absurd (haxis m).motionFlags_eq hne
  | tick hengine huie huif _ => exact .inr ⟨hengine, huie, huif⟩
  | reset hinput _ => exact .inl hinput

theorem defaultTurn_ne_reset (s : State) : defaultTurn s ≠ .reset := by
  unfold defaultTurn
  split
  · nofun
  · split <;> nofun

/-- Settles O19: the default turn is never the reset input. -/
theorem motionFlagsChangeOnlyInATick : Obligations.MotionFlagsChangeOnlyInATick := by
  unfold Obligations.MotionFlagsChangeOnlyInATick
  intro s t m hstep hne
  cases hturns : s.turns with
  | nil =>
    have hresult := turnResult_of_runTurn ((step_default s hturns).symm.trans hstep)
    obtain hreset | ⟨-, huie, huif⟩ := hresult.of_motionFlags_ne hne
    · exact absurd hreset (defaultTurn_ne_reset s)
    · exact .inr ⟨.inl rfl, huie, huif⟩
  | cons turn rest =>
    have hresult := turnResult_of_runTurn ((step_turn s turn rest hturns).symm.trans hstep)
    rw [← axis_with_turns s rest m] at hne
    obtain rfl | ⟨rfl, huie, huif⟩ := hresult.of_motionFlags_ne hne
    · exact .inl rfl
    · exact .inr ⟨.inr rfl, huie, huif⟩

/-! ### The turns to come -/

theorem TurnResult.turns_eq {t : Turn} {s u : State} (h : TurnResult t s u) : u.turns = s.turns := by
  cases h with
  | quiet _ hturns => exact hturns
  | tick _ _ _ hnext => rw [hnext, tickHandler_frame]
  | reset _ hnext => rw [hnext, resetBlock_turns]

/-- A step uses up the first of the turns to come, if there is one. -/
theorem step_turns {s t : State} (h : step s = .next t) : t.turns = s.turns.tail := by
  cases hturns : s.turns with
  | nil => exact (turnResult_of_runTurn ((step_default s hturns).symm.trans h)).turns_eq.trans hturns
  | cons turn rest => exact (turnResult_of_runTurn ((step_turn s turn rest hturns).symm.trans h)).turns_eq

end Sys2Proof.Machine
end

section
/-! The axes do not interfere (20 R93): each turn of two machines that agree on an axis, and differ at most in what they
write to the bank of the other, leaves them agreeing. -/

namespace Sys2Proof.Machine

open Sys2Proof.Claim

section Agree

variable {m : Axis} {s t : State}

/-! ### The host's instructions -/

theorem agreeOn_withTurns (h : AgreeOn m s t) {ss ts : List Turn} (hturns : List.Forall₂ (SameFor m) ss ts) :
    AgreeOn m { s with turns := ss } { t with turns := ts } := by
  obtain ⟨haxis, hrev, hperiod, hcommit, htimer, -, hqueue⟩ := h
  cases m <;> exact ⟨haxis, hrev, hperiod, hcommit, htimer, hturns, hqueue⟩

/-- A change of one axis keeps the agreement, if it is the same change when it is the axis agreed on. -/
theorem agreeOn_setAxis (h : AgreeOn m s t) {m' : Axis} {a b : AxisState} (hab : m' = m → a = b) :
    AgreeOn m (s.setAxis m' a) (t.setAxis m' b) := by
  have haxis : (s.setAxis m' a).axis m = (t.setAxis m' b).axis m := by
    by_cases hm : m' = m
    · subst hm
      rw [State.setAxis_axis_self, State.setAxis_axis_self, hab rfl]
    · rw [State.setAxis_axis_ne _ _ _ _ (Ne.symm hm), State.setAxis_axis_ne _ _ _ _ (Ne.symm hm), h.axis]
  obtain ⟨-, hrev, hperiod, hcommit, htimer, hturns, hqueue⟩ := h
  cases m' <;> exact ⟨haxis, by cases m <;> exact hrev, hperiod, hcommit, htimer, hturns, hqueue⟩

/-- An instruction of the host finds the same on both machines, wherever it reads what it writes. -/
theorem agreeOn_exec_decodeHost (h : AgreeOn m s t) (w : HostWord) :
    ∃ s' t', exec (decodeHost w) s = .next s' ∧ exec (decodeHost w) t = .next t' ∧ AgreeOn m s' t' := by
  obtain ⟨w', hcode⟩ := exists_encode_decodeHost w
  have ⟨haxis, hrev, hperiod, hcommit, ⟨hcen, huie, huif, htim, hcnt⟩, hturns, hqueue⟩ := h
  cases hi : decodeHost w <;> rw [hi] at hcode
  case cwSpinup | cwCruise | cwSpindown | ccwSpinup | ccwCruise | ccwSpindown | ccwCreep | cwCreep | idle | tick =>
    cases hcode
  case cmd2SetCurrents | cmd3SetPeriods | cmd4QueueMove | cmd7Execute => cases hcode
  case wrIgnored => exact ⟨s, t, rfl, rfl, h⟩
  case rd =>
    refine ⟨_, _, rfl, rfl, ?_⟩
    cases m <;> exact ⟨haxis, hrev, hperiod, hcommit, ⟨hcen, huie, huif, htim, hcnt⟩, hturns, hqueue⟩
  case wrTimCtrl =>
    refine ⟨_, _, rfl, rfl, ?_⟩
    cases m <;> exact ⟨haxis, hrev, hperiod, hcommit, ⟨rfl, rfl, huif, htim, hcnt⟩, hturns, hqueue⟩
  case wrTimPeriod =>
    refine ⟨_, _, rfl, rfl, ?_⟩
    cases m <;> exact ⟨haxis, hrev, hperiod, hcommit, ⟨hcen, huie, huif, rfl, hcnt⟩, hturns, hqueue⟩
  case wrCommit d =>
    refine ⟨_, _, rfl, rfl, ?_⟩
    have hmask := congrArg (· ||| lowBits 2 d) hcommit
    cases m <;> exact ⟨haxis, hrev, hperiod, hmask, ⟨hcen, huie, huif, htim, hcnt⟩, hturns, hqueue⟩
  case wrSpinPeriod =>
    refine ⟨_, _, rfl, rfl, ?_⟩
    cases m <;> exact ⟨haxis, hrev, rfl, hcommit, ⟨hcen, huie, huif, htim, hcnt⟩, hturns, hqueue⟩
  all_goals exact ⟨_, _, rfl, rfl, agreeOn_setAxis h fun hm => by rw [hm, haxis]⟩

theorem hostAddr_of_writesOnly {w : HostWord} (h : WritesOnly m w) :
    hostWrite w = true ∧ (hostAddr w).getLsbD 6 = true ∧ axisOfBit ((hostAddr w).getLsbD 5) = m := by
  obtain ⟨hwrite, hbank, hbit⟩ := h
  have hbit6 : (hostAddr w).getLsbD 6 = w.getLsbD 38 := by simp [hostAddr]
  have hbit5 : (hostAddr w).getLsbD 5 = w.getLsbD 37 := by simp [hostAddr]
  refine ⟨hwrite, hbit6.trans hbank, ?_⟩
  rw [hbit5, hbit]
  cases m <;> rfl

/-- A write to the bank of an axis replaces that axis and nothing else. -/
theorem exec_decodeHost_of_writesOnly {w : HostWord} (h : WritesOnly m w) (s : State) :
    ∃ a, exec (decodeHost w) s = .next (s.setAxis m a) := by
  obtain ⟨hwrite, hbank, hm⟩ := hostAddr_of_writesOnly h
  rw [decodeHost, if_pos hwrite, if_pos hbank, decodeAxisWrite, hm]
  split
  case h_12 => exact ⟨s.axis m, by rw [State.setAxis_self]; rfl⟩
  all_goals exact ⟨_, rfl⟩

/-! ### The turns -/

theorem agreeOn_timerClock (h : AgreeOn m s t) : AgreeOn m (timerClock s) (timerClock t) := by
  have ⟨haxis, hrev, hperiod, hcommit, ⟨hcen, huie, huif, htim, hcnt⟩, hturns, hqueue⟩ := h
  have hends : periodEnds s = periodEnds t := by rw [periodEnds, htim, hcnt, periodEnds]
  unfold timerClock
  rw [hcen, hends]
  split
  · split
    · cases m <;> exact ⟨haxis, hrev, hperiod, hcommit, ⟨rfl, huie, rfl, htim, rfl⟩, hturns, hqueue⟩
    · have hcount := congrArg (· + 1#16) hcnt
      cases m <;> exact ⟨haxis, hrev, hperiod, hcommit, ⟨rfl, huie, huif, htim, hcount⟩, hturns, hqueue⟩
  · exact h

theorem agreeOn_untimedEvent (h : AgreeOn m s t) : AgreeOn m (untimedEvent s) (untimedEvent t) := by
  have ⟨haxis, hrev, hperiod, hcommit, ⟨hcen, huie, huif, htim, hcnt⟩, hturns, hqueue⟩ := h
  unfold untimedEvent
  rw [hcen]
  split
  · cases m <;> exact ⟨haxis, hrev, hperiod, hcommit, ⟨hcen, huie, rfl, htim, hcnt⟩, hturns, hqueue⟩
  · exact h

/-- A tick of an axis reads the axis, its strap, `SPIN_PERIOD` and `COMMIT`. -/
theorem agreeOn_tickHandler (h : AgreeOn m s t) : AgreeOn m (tickHandler s) (tickHandler t) := by
  obtain ⟨haxis, hrev, hperiod, hcommit, ⟨hcen, huie, -, htim, hcnt⟩, hturns, hqueue⟩ := h
  have hticked : (tickHandler s).axis m = (tickHandler t).axis m := by
    rw [tickHandler_axis, tickHandler_axis, haxis, hrev, hperiod, hcommit]
  refine ⟨hticked, ?_, ?_, ?_, ?_, ?_, ?_⟩ <;> rw [tickHandler_frame s, tickHandler_frame t]
  · cases m <;> exact hrev
  · exact hperiod
  · exact ⟨hcen, huie, rfl, htim, hcnt⟩
  · exact hturns
  · exact hqueue

theorem agreeOn_engineTurn (h : AgreeOn m s t) :
    ∃ s' t', engineTurn s = .next s' ∧ engineTurn t = .next t' ∧ AgreeOn m s' t' := by
  have ⟨_, huie, huif, _⟩ := h.timer
  obtain ⟨hs, hs', hes⟩ | ⟨hs, hes⟩ := engineTurn_cases s <;>
    obtain ⟨ht, ht', het⟩ | ⟨ht, het⟩ := engineTurn_cases t
  · exact ⟨_, _, hes, het, agreeOn_tickHandler h⟩
  · simp_all
  · simp_all
  · exact ⟨s, t, hes, het, h⟩

theorem agreeOn_resetBlock (h : AgreeOn m s t) : AgreeOn m (resetBlock s) (resetBlock t) := by
  obtain ⟨-, hrev, -, -, -, hturns, hqueue⟩ := h
  cases m <;> exact ⟨rfl, hrev, rfl, rfl, ⟨rfl, rfl, rfl, rfl, rfl⟩, hturns, hqueue⟩

theorem hostTurn_of_queue_nil (w : HostWord) (h : s.hostQueue = []) : hostTurn w s = exec (decodeHost w) s := by
  obtain ⟨-, he⟩ | ⟨v, vs, hq, -⟩ := hostTurn_cases w s
  · exact he
  · cases h.symm.trans hq

theorem other_ne (m : Axis) : other m ≠ m := by cases m <;> decide

theorem agreeOn_runTurn (h : AgreeOn m s t) {a b : Turn} (hab : SameFor m a b) :
    ∃ s' t', runTurn a s = .next s' ∧ runTurn b t = .next t' ∧ AgreeOn m s' t' := by
  have ⟨hsq, htq⟩ := h.queue
  cases hab with
  | clock => exact ⟨_, _, rfl, rfl, agreeOn_timerClock h⟩
  | event => exact ⟨_, _, rfl, rfl, agreeOn_untimedEvent h⟩
  | engine => exact agreeOn_engineTurn h
  | reset => exact ⟨_, _, rfl, rfl, agreeOn_resetBlock h⟩
  | host w =>
    obtain ⟨s', t', hs, ht, hagree⟩ := agreeOn_exec_decodeHost h w
    exact ⟨s', t', (hostTurn_of_queue_nil w hsq).trans hs, (hostTurn_of_queue_nil w htq).trans ht, hagree⟩
  | elsewhere w w' hw hw' =>
    obtain ⟨a, hs⟩ := exec_decodeHost_of_writesOnly hw s
    obtain ⟨b, ht⟩ := exec_decodeHost_of_writesOnly hw' t
    exact ⟨_, _, (hostTurn_of_queue_nil w hsq).trans hs, (hostTurn_of_queue_nil w' htq).trans ht,
      agreeOn_setAxis h fun hm => absurd hm (other_ne m)⟩

theorem agreeOn_defaultTurn (h : AgreeOn m s t) : SameFor m (defaultTurn s) (defaultTurn t) := by
  have ⟨_, huie, huif, _⟩ := h.timer
  have ⟨hsq, htq⟩ := h.queue
  rw [defaultTurn, defaultTurn, huie, huif, if_pos hsq, if_pos htq]
  split
  · exact .engine
  · exact .clock

theorem agreeOn_step (h : AgreeOn m s t) :
    ∃ s' t', step s = .next s' ∧ step t = .next t' ∧ AgreeOn m s' t' := by
  have hturns := h.turns
  cases hs : s.turns with
  | nil =>
    rw [hs, List.forall₂_nil_left_iff] at hturns
    rw [step_default s hs, step_default t hturns]
    exact agreeOn_runTurn h (agreeOn_defaultTurn h)
  | cons a ss =>
    rw [hs, List.forall₂_cons_left_iff] at hturns
    obtain ⟨b, ts, hab, hrest, ht⟩ := hturns
    rw [step_turn s a ss hs, step_turn t b ts ht]
    exact agreeOn_runTurn (agreeOn_withTurns h hrest) hab

end Agree

/-- Settles O31, by induction on the number of steps. -/
theorem axesNeverInterfere : Obligations.AxesNeverInterfere := by
  unfold Obligations.AxesNeverInterfere
  intro m n
  induction n with
  | zero => exact fun s t h => ⟨s, t, rfl, rfl, h⟩
  | succ n ih =>
    intro s t h
    obtain ⟨u, v, hu, hv, huv⟩ := agreeOn_step h
    rw [runSteps_succ_of_next n hu, runSteps_succ_of_next n hv]
    exact ih u v huv

end Sys2Proof.Machine
end

section
/-! The engine's turn, the handler and the reset input: when a tick runs, what it leaves, what of an axis it may clear,
and what it does not look at (20 R91; 40 R132 to R139; 70 R260). -/

namespace Sys2Proof.Machine

open Sys2Proof.Claim

/-- Settles O8: the engine's turn is a tick when both bits are 1, and nothing otherwise. -/
theorem handlerStartsWhenPendingAndEnabled : Obligations.HandlerStartsWhenPendingAndEnabled := by
  unfold Obligations.HandlerStartsWhenPendingAndEnabled
  intro s rest hturns
  rw [step_turn s _ rest hturns, runTurn]
  obtain ⟨huie, huif, h⟩ | ⟨hoff, h⟩ := engineTurn_cases { s with turns := rest } <;> rw [h]
  · exact ⟨fun _ => rfl, fun hnot => absurd ⟨huie, huif⟩ hnot⟩
  · refine ⟨fun ⟨huie, huif⟩ => ?_, fun _ => rfl⟩
    obtain hoff | hoff := hoff
    · exact absurd huie (Bool.eq_false_iff.mp hoff)
    · exact absurd huif (Bool.eq_false_iff.mp hoff)

/-- Settles O15: the frame of the handler. -/
theorem tickLeavesNothingPending : Obligations.TickLeavesNothingPending := by
  unfold Obligations.TickLeavesNothingPending
  intro s
  refine ⟨tickHandler s, rfl, ?_, ?_⟩ <;> rw [tickHandler_frame]

/-! ### The reset input -/

/-- The register space shows the block's registers only, and those are reset. -/
theorem regRead_resetBlock (s : State) (addr : HostAddr) : regRead (resetBlock s) addr = regRead State.reset addr := by
  have haxis (m : Axis) : (resetBlock s).axis m = State.reset.axis m := by cases m <;> rfl
  have hglobal (r : BitVec 6) : globalRegRead (resetBlock s) r = globalRegRead State.reset r := rfl
  rw [regRead, haxis, hglobal, regRead]

/-- Settles O11. -/
theorem resetInputRestoresTheBlock : Obligations.ResetInputRestoresTheBlock := by
  unfold Obligations.ResetInputRestoresTheBlock
  intro s rest hturns
  rw [step_turn s _ rest hturns]
  exact ⟨_, rfl, regRead_resetBlock _, rfl, rfl, rfl, rfl⟩

/-! ### What a stage action clears -/

/-- The stage word after an action on the stage of bit `b`: as it was, or without that bit. -/
def KeepsOrClears (b : Nat) (w w' : StageWord) : Prop := w' = w ∨ BitCleared b w w'

theorem keepsOrClears_of_spinResult {rev : Bool} {sp : Nat} {sgn : Int} {cur b next stop : Nat} {a a' : AxisState}
    (h : SpinResult rev sp sgn cur b next stop a a') : KeepsOrClears b a.motionFlags a'.motionFlags := by
  by_cases hdue : sp ≤ a.spinSubcount.toNat + 1
  · obtain ⟨-, -, hstays, hends⟩ := h.ramps hdue
    by_cases hstop : next = stop
    · exact .inr (hends hstop).1
    · exact .inl (hstays hstop).1
  · obtain ⟨-, -, hflags, -⟩ := h.waits (not_le.mp hdue)
    exact .inl hflags

theorem keepsOrClears_of_cruiseResult {rev : Bool} {sgn : Int} {b : Nat} {a a' : AxisState}
    (h : CruiseResult rev sgn b a a') : KeepsOrClears b a.motionFlags a'.motionFlags := by
  by_cases h0 : a.cruiseSteps = 0#32
  · obtain ⟨-, -, hcleared, -⟩ := h.empty h0
    exact .inr hcleared
  · obtain ⟨-, -, hstays, hends⟩ := h.moves h0
    by_cases hlast : a'.cruiseSteps = 0#32
    · exact .inr (hends hlast).1
    · exact .inl (hstays hlast).1

theorem keepsOrClears_of_creepResult {rev : Bool} {sgn : Int} {b : Nat} {steps : AxisState → BitVec 32}
    {op : AxisState → BitVec 7} {bumped : Bool} {a a' : AxisState} (h : CreepResult rev sgn b steps op bumped a a') :
    KeepsOrClears b a.motionFlags a'.motionFlags := by
  by_cases h0 : steps a = 0#32
  · obtain ⟨-, -, -, -, hcleared, -⟩ := h.empty h0
    exact .inr hcleared
  · by_cases hdue : a.creepPeriod.toNat ≤ a.creepSubcount.toNat + 1
    · obtain ⟨-, -, -, hstays, hends⟩ := h.moves h0 hdue
      by_cases hlast : steps a' = 0#32
      · exact .inr (hends hlast).1
      · exact .inl (hstays hlast).1
    · obtain ⟨-, -, -, hflags, -⟩ := h.waits h0 (not_le.mp hdue)
      exact .inl hflags

theorem stageAction_keepsOrClears (rev : Bool) (sp : BitVec 8) (b : Fin 8) (a : AxisState) :
    KeepsOrClears b a.motionFlags (stageAction hardware rev sp (stageOfBit b) a).motionFlags := by
  match b with
  | 7 => exact keepsOrClears_of_spinResult (spinResult_spinUpTick rev sp 1 a (by decide))
  | 6 => exact keepsOrClears_of_cruiseResult (cruiseResult_cruiseTick rev 1 a (by decide))
  | 5 => exact keepsOrClears_of_spinResult (spinResult_spinDownTick rev sp 1 a (by decide))
  | 4 => exact keepsOrClears_of_spinResult (spinResult_spinUpTick rev sp (-1) a (by decide))
  | 3 => exact keepsOrClears_of_cruiseResult (cruiseResult_cruiseTick rev (-1) a (by decide))
  | 2 => exact keepsOrClears_of_spinResult (spinResult_spinDownTick rev sp (-1) a (by decide))
  | 1 => exact keepsOrClears_of_creepResult (creepResult_ccwCreep rev a)
  | 0 => exact keepsOrClears_of_creepResult (creepResult_cwCreep rev a)

/-- What a tick does to an axis whose active stage is known. -/
theorem tickOf_of_decodeStage {a : AxisState} {st : Stage} (h : decodeStage a.motionFlags = st) (rev : Bool)
    (sp : BitVec 8) : tickOf rev sp a = stageAction hardware rev sp st a := by
  rw [tickOf, axisTick, h]

/-- Settles O26: the highest set bit is that of the active stage. -/
theorem tickClearsAtMostTheActiveBit : Obligations.TickClearsAtMostTheActiveBit := by
  unfold Obligations.TickClearsAtMostTheActiveBit
  intro rev sp a b hset habove
  rw [tickOf_of_decodeStage (IsHighestBit.decodeStage_eq ⟨hset, habove⟩)]
  exact stageAction_keepsOrClears rev sp b a

/-! ### An idle axis (41 R163, R167) -/

/-- The axis stands as `a` and is not committed. -/
def StandsUncommitted (m : Axis) (a : AxisState) (s : State) : Prop := s.axis m = a ∧ committed m s = false

/-- An update event or an engine's turn finds an idle axis that is not committed, and leaves it so. -/
theorem runTurn_standsUncommitted {m : Axis} {a : AxisState} {t : Turn} {s : State} (ht : t = .event ∨ t = .engine)
    (hidle : a.motionFlags = 0#8) (hs : StandsUncommitted m a s) :
    ∃ u, runTurn t s = .next u ∧ StandsUncommitted m a u := by
  obtain ⟨haxis, hcommit⟩ := hs
  obtain rfl | rfl := ht
  · refine ⟨_, rfl, ?_⟩
    unfold untimedEvent
    split
    · cases m <;> exact ⟨haxis, hcommit⟩
    · exact ⟨haxis, hcommit⟩
  · obtain ⟨-, -, h⟩ | ⟨-, h⟩ := engineTurn_cases s
    · refine ⟨_, h, ?_, ?_⟩
      · rw [tickHandler_axis, commitBit_eq_committed, hcommit, haxis]
        exact tickOf_of_idle (s.rev m) s.spinPeriod hidle
      · rw [tickHandler_frame, committed, BitVec.getLsbD_zero]
    · exact ⟨s, h, haxis, hcommit⟩

theorem runSteps_standsUncommitted {m : Axis} {a : AxisState} {rest : List Turn} (hidle : a.motionFlags = 0#8)
    {ts : List Turn} (hts : ∀ t ∈ ts, t = .event ∨ t = .engine) {s : State} (hs : StandsUncommitted m a s)
    (hturns : s.turns = ts ++ rest) :
    ∃ u, runSteps ts.length s = .next u ∧ u.axis m = a ∧ u.turns = rest := by
  induction ts generalizing s with
  | nil => exact ⟨s, rfl, hs.1, hturns⟩
  | cons t ts ih =>
    obtain ⟨ht, hts⟩ := List.forall_mem_cons.mp hts
    have hpopped : StandsUncommitted m a { s with turns := ts ++ rest } := by cases m <;> exact hs
    obtain ⟨u, hu, hu'⟩ := runTurn_standsUncommitted ht hidle hpopped
    have hstep : step s = .next u := (step_turn s t (ts ++ rest) hturns).trans hu
    have hrest : u.turns = ts ++ rest := by rw [step_turns hstep, hturns]; rfl
    obtain ⟨v, hv, hv'⟩ := ih hts hu' hrest
    exact ⟨v, (runSteps_succ_of_next ts.length hstep).trans hv, hv'⟩

theorem length_ticks (n : Nat) : (ticks n).length = 2 * n := by
  rw [ticks, List.length_flatten, List.map_replicate, List.sum_replicate, smul_eq_mul, Nat.mul_comm]
  rfl

theorem mem_ticks {n : Nat} {t : Turn} (h : t ∈ ticks n) : t = .event ∨ t = .engine := by
  obtain ⟨tick, htick, ht⟩ := List.mem_flatten.mp h
  rw [List.eq_of_mem_replicate htick] at ht
  simpa using ht

/-- Settles O30: ticks are update events and turns of the engine. -/
theorem idleAxisStaysUntilCommitted : Obligations.IdleAxisStaysUntilCommitted := by
  unfold Obligations.IdleAxisStaysUntilCommitted
  intro s m n rest hcommit hidle hturns
  rw [← length_ticks]
  exact runSteps_standsUncommitted hidle (fun _ => mem_ticks) ⟨rfl, hcommit⟩ hturns

/-! ### The shadow word (20 R91) -/

/-- The axis with another shadow word. -/
def withShadow (w : StageWord) (a : AxisState) : AxisState := { a with shadowFlags := w }

section Shadow

variable (c : Config) (rev : Bool) (sp : BitVec 8) (w : StageWord) (a : AxisState)

theorem complete_withShadow (b : Nat) : complete c rev b (withShadow w a) = withShadow w (complete c rev b a) := by
  obtain ⟨h, he⟩ | ⟨h, he⟩ := complete_cases c rev b a <;> rw [he, complete]
  · exact if_pos h
  · exact if_neg h

theorem spinCountUp_withShadow (b : Nat) :
    spinCountUp c rev sp b (withShadow w a) = withShadow w (spinCountUp c rev sp b a) := by
  unfold spinCountUp
  rw [apply_ite (withShadow w), apply_ite (withShadow w), ← complete_withShadow]
  rfl

theorem spinCountDown_withShadow (b : Nat) :
    spinCountDown c rev sp b (withShadow w a) = withShadow w (spinCountDown c rev sp b a) := by
  unfold spinCountDown
  rw [apply_ite (withShadow w), apply_ite (withShadow w), ← complete_withShadow]
  rfl

theorem spinUpTick_withShadow (sgn : Int) (b : Nat) :
    spinUpTick c rev sp sgn b (withShadow w a) = withShadow w (spinUpTick c rev sp sgn b a) := by
  unfold spinUpTick
  rw [← spinCountUp_withShadow]
  rfl

theorem spinDownTick_withShadow (sgn : Int) (b : Nat) :
    spinDownTick c rev sp sgn b (withShadow w a) = withShadow w (spinDownTick c rev sp sgn b a) := by
  unfold spinDownTick
  rw [← spinCountDown_withShadow]
  rfl

theorem cruiseCount_withShadow (b : Nat) :
    cruiseCount c rev b (withShadow w a) = withShadow w (cruiseCount c rev b a) := by
  unfold cruiseCount
  rw [apply_ite (withShadow w), ← complete_withShadow]
  rfl

theorem cruiseTick_withShadow (sgn : Int) (b : Nat) :
    cruiseTick c rev sgn b (withShadow w a) = withShadow w (cruiseTick c rev sgn b a) := by
  unfold cruiseTick
  rw [apply_ite (withShadow w), ← complete_withShadow, ← cruiseCount_withShadow]
  rfl

theorem cwCreepCount_withShadow : cwCreepCount c rev (withShadow w a) = withShadow w (cwCreepCount c rev a) := by
  unfold cwCreepCount
  rw [apply_ite (withShadow w), ← complete_withShadow]
  rfl

theorem ccwCreepCount_withShadow : ccwCreepCount c rev (withShadow w a) = withShadow w (ccwCreepCount c rev a) := by
  unfold ccwCreepCount
  rw [apply_ite (withShadow w), ← complete_withShadow]
  rfl

theorem cwCreepActive_withShadow : cwCreepActive c rev (withShadow w a) = withShadow w (cwCreepActive c rev a) := by
  unfold cwCreepActive
  rw [apply_ite (withShadow w), ← cwCreepCount_withShadow]
  rfl

theorem ccwCreepActive_withShadow : ccwCreepActive c rev (withShadow w a) = withShadow w (ccwCreepActive c rev a) := by
  unfold ccwCreepActive
  rw [apply_ite (withShadow w), ← ccwCreepCount_withShadow]
  rfl

theorem bumpCwCreep_withShadow : bumpCwCreep c (withShadow w a) = withShadow w (bumpCwCreep c a) := by
  unfold bumpCwCreep
  rw [apply_ite (withShadow w)]
  rfl

theorem bumpCcwCreep_withShadow : bumpCcwCreep c (withShadow w a) = withShadow w (bumpCcwCreep c a) := by
  unfold bumpCcwCreep
  rw [apply_ite (withShadow w)]
  rfl

theorem cwCreep_withShadow : cwCreep c rev (withShadow w a) = withShadow w (cwCreep c rev a) := by
  unfold cwCreep
  rw [apply_ite (withShadow w), ← complete_withShadow, ← cwCreepActive_withShadow, ← bumpCwCreep_withShadow]
  rfl

theorem ccwCreep_withShadow : ccwCreep c rev (withShadow w a) = withShadow w (ccwCreep c rev a) := by
  unfold ccwCreep
  rw [apply_ite (withShadow w), ← complete_withShadow, ← ccwCreepActive_withShadow, ← bumpCcwCreep_withShadow]
  rfl

/-- No stage action looks at the shadow word. -/
theorem stageAction_withShadow (st : Stage) :
    stageAction c rev sp st (withShadow w a) = withShadow w (stageAction c rev sp st a) := by
  cases st with
  | cwSpinup | ccwSpinup => exact spinUpTick_withShadow ..
  | cwSpindown | ccwSpindown => exact spinDownTick_withShadow ..
  | cwCruise | ccwCruise => exact cruiseTick_withShadow ..
  | cwCreep => exact cwCreep_withShadow ..
  | ccwCreep => exact ccwCreep_withShadow ..
  | idle => rfl

end Shadow

theorem State.ext_of_axis {s t : State} (h : t = { s with ax0 := t.ax0, ax1 := t.ax1 })
    (haxis : ∀ m, t.axis m = s.axis m) : t = s := by
  have h0 : t.ax0 = s.ax0 := haxis .zero
  have h1 : t.ax1 = s.ax1 := haxis .one
  rw [h, h0, h1]

/-- A tick that does not commit an axis keeps apart what its shadow word is. -/
theorem tickHandler_setShadow {s : State} {m : Axis} (hm : committed m s = false) (w : StageWord) :
    tickHandler (s.setAxis m (withShadow w (s.axis m))) =
      (tickHandler s).setAxis m (withShadow w ((tickHandler s).axis m)) := by
  refine State.ext_of_axis ?_ fun m' => ?_
  · rw [tickHandler_frame (s.setAxis m _), tickHandler_frame s]
    cases m <;> rfl
  · rw [tickHandler_axis, State.setAxis_commit, State.setAxis_rev, State.setAxis_spinPeriod]
    by_cases hm' : m' = m
    · subst hm'
      rw [State.setAxis_axis_self, State.setAxis_axis_self, tickHandler_axis, commitBit_eq_committed, hm]
      exact stageAction_withShadow ..
    · rw [State.setAxis_axis_ne _ _ _ _ hm', State.setAxis_axis_ne _ _ _ _ hm', tickHandler_axis]

/-- Settles O29. -/
theorem shadowIsInertUntilCommitted : Obligations.ShadowIsInertUntilCommitted := by
  unfold Obligations.ShadowIsInertUntilCommitted
  intro s m w hm
  exact ⟨tickHandler s, rfl, congrArg Host.Outcome.next (tickHandler_setShadow hm w)⟩

end Sys2Proof.Machine
end

section
/-! The update timer (40 R130, R131, R134): a clock, an untimed event, and the clocks of a period. -/

namespace Sys2Proof.Machine

open Sys2Proof.Claim

/-! ### One clock -/

theorem timerClock_of_stopped {s : State} (h : s.cen = false) : timerClock s = s := by
  rw [timerClock, h]
  rfl

theorem timerClock_of_period_end {s : State} (hcen : s.cen = true) (h : s.timPeriod.toNat ≤ s.cnt.toNat + 1) :
    timerClock s = { s with cnt := 0#16, uif := true } := by
  rw [timerClock, if_pos hcen, periodEnds, if_pos (decide_eq_true h)]
  rfl

theorem timerClock_of_count {s : State} (hcen : s.cen = true) (h : s.cnt.toNat + 1 < s.timPeriod.toNat) :
    timerClock s = { s with cnt := s.cnt + 1#16 } := by
  rw [timerClock, if_pos hcen, periodEnds, if_neg (by simpa using h)]

theorem step_clock_of_stopped {s : State} {rest : List Turn} (hturns : s.turns = .clock :: rest) (h : s.cen = false) :
    step s = .next { s with turns := rest } :=
  (step_turn s .clock rest hturns).trans (congrArg Host.Outcome.next (timerClock_of_stopped h))

theorem step_clock_of_period_end {s : State} {rest : List Turn} (hturns : s.turns = .clock :: rest) (hcen : s.cen = true)
    (h : s.timPeriod.toNat ≤ s.cnt.toNat + 1) :
    step s = .next { s with turns := rest, cnt := 0#16, uif := true } :=
  (step_turn s .clock rest hturns).trans
    (congrArg Host.Outcome.next (timerClock_of_period_end (s := { s with turns := rest }) hcen h))

theorem step_clock_of_count {s : State} {rest : List Turn} (hturns : s.turns = .clock :: rest) (hcen : s.cen = true)
    (h : s.cnt.toNat + 1 < s.timPeriod.toNat) :
    step s = .next { s with turns := rest, cnt := s.cnt + 1#16 } :=
  (step_turn s .clock rest hturns).trans
    (congrArg Host.Outcome.next (timerClock_of_count (s := { s with turns := rest }) hcen h))

/-- A counter below a 16-bit period counts without wrapping. -/
theorem cnt_add_one_toNat {cnt period : BitVec 16} (h : cnt.toNat + 1 < period.toNat) :
    (cnt + 1#16).toNat = cnt.toNat + 1 := by
  bv_omega

/-! ### The clocks of a period -/

/-- The machine after `k` of `p` clocks that count from a cleared counter. -/
def clocked (p : Nat) (rest : List Turn) (s : State) (k : Nat) : State :=
  { s with turns := List.replicate (p - k) .clock ++ rest, cnt := BitVec.ofNat 16 k }

section Period

variable {s : State} {rest : List Turn} {p : Nat} (hcen : s.cen = true) (hp : p = max s.timPeriod.toNat 1)

theorem clocked_turns {k : Nat} (hk : k < p) :
    (clocked p rest s k).turns = .clock :: (List.replicate (p - (k + 1)) .clock ++ rest) := by
  rw [clocked, show p - k = p - (k + 1) + 1 by omega, List.replicate_succ, List.cons_append]

include hp in
theorem clocked_cnt_toNat {k : Nat} (hk : k < p) : (clocked p rest s k).cnt.toNat = k := by
  have hfit := s.timPeriod.isLt
  exact Nat.mod_eq_of_lt (by omega)

include hcen hp

theorem step_clocked_of_count {k : Nat} (hk : k + 1 < p) :
    step (clocked p rest s k) = .next (clocked p rest s (k + 1)) := by
  have hcnt := clocked_cnt_toNat (rest := rest) hp (Nat.lt_of_succ_lt hk)
  have hcount : (clocked p rest s k).cnt.toNat + 1 < s.timPeriod.toNat := by omega
  rw [step_clock_of_count (clocked_turns (Nat.lt_of_succ_lt hk)) hcen hcount, clocked, clocked, BitVec.ofNat_add]

theorem step_clocked_of_period_end {k : Nat} (hk : k + 1 = p) :
    step (clocked p rest s k) = .next { s with turns := rest, cnt := 0#16, uif := true } := by
  have hcnt := clocked_cnt_toNat (rest := rest) hp (Nat.lt_of_succ_le hk.le)
  have hend : s.timPeriod.toNat ≤ (clocked p rest s k).cnt.toNat + 1 := by omega
  rw [step_clock_of_period_end (clocked_turns (Nat.lt_of_succ_le hk.le)) hcen hend, hk, Nat.sub_self]
  rfl

theorem runSteps_clocked (k : Nat) (hk : k < p) : runSteps k (clocked p rest s 0) = .next (clocked p rest s k) := by
  induction k with
  | zero => rfl
  | succ k ih =>
    rw [runSteps_add_of_next 1 (ih (Nat.lt_of_succ_lt hk))]
    exact runSteps_succ_of_next 0 (step_clocked_of_count hcen hp hk)

end Period

/-- Settles O45: `P - 1` clocks count, and the next one ends the period. -/
theorem updateEventEveryPeriod : Obligations.UpdateEventEveryPeriod := by
  unfold Obligations.UpdateEventEveryPeriod
  intro s rest p hcen hcnt hp hturns
  have hstart : clocked p rest s 0 = s := by
    rw [clocked, Nat.sub_zero, ← hturns, ← hcnt]
  have hrun := runSteps_clocked (rest := rest) hcen hp
  rw [hstart] at hrun
  refine ⟨hrun, ?_⟩
  obtain ⟨k, rfl⟩ : ∃ k, p = k + 1 := ⟨p - 1, by omega⟩
  rw [runSteps_add_of_next 1 (hrun k (Nat.lt_succ_self k))]
  exact runSteps_succ_of_next 0 (step_clocked_of_period_end hcen hp rfl)

/-- Settles O44. -/
theorem updateEventSetsPendingOnly : Obligations.UpdateEventSetsPendingOnly := by
  unfold Obligations.UpdateEventSetsPendingOnly
  intro s rest hturns
  rw [step_turn s _ rest hturns, runTurn, untimedEvent]
  exact ⟨fun hon => congrArg Host.Outcome.next (if_pos hon),
    fun hoff => congrArg Host.Outcome.next (if_neg (Bool.eq_false_iff.mp hoff))⟩

end Sys2Proof.Machine

namespace Sys2Proof

open Sys2Proof.Machine

/-- Settles O43. -/
theorem timerClock : Obligations.TimerClock := by
  unfold Obligations.TimerClock
  intro s rest hturns
  exact ⟨step_clock_of_stopped hturns, step_clock_of_period_end hturns,
    fun hcen hlt => ⟨_, step_clock_of_count hturns hcen hlt, cnt_add_one_toNat hlt, rfl⟩⟩

end Sys2Proof
end

section
/-! Duties and table indexes (20 R77; 41 R151, R166): an axis within the invariants reads the table up to index 5999
only, so no entry beyond can change a tick. -/

namespace Sys2Proof.Machine

/-- Settles O42. -/
theorem dutyArithmetic : Obligations.DutyArithmetic := by
  unfold Obligations.DutyArithmetic
  intro c cur i hc hi hcur
  obtain ⟨hone, -⟩ := hc.curWidth
  have hwave := hc.waveBound i hi
  have hfit : cur.toNat * c.wave i / c.curOne < 65536 := by
    refine lt_of_le_of_lt ?_ hc.dutyWidth
    calc cur.toNat * c.wave i / c.curOne ≤ c.curOne * c.wave i / c.curOne :=
          Nat.div_le_div_right (Nat.mul_le_mul_right _ hcur)
      _ = c.wave i := Nat.mul_div_cancel_left _ hone
      _ ≤ c.dutyMax := hwave
  have hduty := duty_toNat c cur i hfit
  refine ⟨hduty, duty_le c cur i hcur hwave hone hc.dutyWidth, fun hfull => ?_, fun hzero => ?_⟩
  · rw [hduty, hfull, Nat.mul_div_cancel_left _ hone]
  · rw [hduty, hzero, Nat.zero_mul, Nat.zero_div]

/-! ### Another table that agrees with `WAVE` up to index 5999 -/

/-- This hardware with another waveform table. -/
def withWave (wave : Nat → Nat) : Config := { hardware with wave := wave }

section Wave

variable {wave : Nat → Nat} (hwave : ∀ i, i ≤ 5999 → wave i = hardware.wave i) {a : AxisState}

include hwave

theorem duty_withWave {i : Nat} (hi : i ≤ 5999) (cur : BitVec 7) : duty (withWave wave) cur i = duty hardware cur i := by
  have hentry : (withWave wave).wave i = hardware.wave i := hwave i hi
  rw [duty, hentry]
  rfl

variable (hphase : a.phaseAngle.toNat < 3600) (rev : Bool)

omit hwave in
include hphase in
/-- The three indexes of a duty write (20 R77). -/
theorem dutyIndexes_le :
    a.phaseAngle.toNat ≤ 5999 ∧ a.phaseAngle.toNat + offsetA hardware rev ≤ 5999 ∧
      a.phaseAngle.toNat + offsetB hardware rev ≤ 5999 := by
  have hA : offsetA hardware rev ≤ 2400 := offsetA_le hardware rev
  have hB : offsetB hardware rev ≤ 2400 := offsetB_le hardware rev
  omega

include hphase

theorem writeDuty_withWave (cur : BitVec 7) : writeDuty (withWave wave) rev cur a = writeDuty hardware rev cur a := by
  obtain ⟨h0, hA, hB⟩ := dutyIndexes_le hphase rev
  have hoffA : offsetA (withWave wave) rev = offsetA hardware rev := rfl
  have hoffB : offsetB (withWave wave) rev = offsetB hardware rev := rfl
  rw [writeDuty, hoffA, hoffB, duty_withWave hwave h0, duty_withWave hwave hA, duty_withWave hwave hB, writeDuty]

theorem complete_withWave (b : Nat) : complete (withWave wave) rev b a = complete hardware rev b a := by
  have hdrop := writeDuty_withWave hwave
    (a := { a with motionFlags := clearStageBit a.motionFlags b }) hphase rev a.curDrop
  rw [complete, hdrop, complete]

theorem spinCountUp_withWave (sp : BitVec 8) (b : Nat) :
    spinCountUp (withWave wave) rev sp b a = spinCountUp hardware rev sp b a := by
  have hcomplete := complete_withWave hwave
    (a := { a with spinSubcount := 0#8, spinPointer := pointerUp hardware a.spinPointer }) hphase rev b
  unfold spinCountUp
  rw [← hcomplete]
  rfl

theorem spinCountDown_withWave (sp : BitVec 8) (b : Nat) :
    spinCountDown (withWave wave) rev sp b a = spinCountDown hardware rev sp b a := by
  have hcomplete := complete_withWave hwave
    (a := { a with spinSubcount := 0#8, spinPointer := pointerDown a.spinPointer }) hphase rev b
  unfold spinCountDown
  rw [← hcomplete]

omit hwave hphase in
theorem advance_hardware_lt (d : Int) (a : AxisState) : (advance hardware d a).phaseAngle.toNat < 3600 :=
  advance_phase_lt hardware d a (by decide) (by decide)

omit hwave hphase in
theorem writeDuty_advance_lt (c : Config) (rev : Bool) (cur : BitVec 7) (d : Int) (a : AxisState) :
    (writeDuty c rev cur (advance hardware d a)).phaseAngle.toNat < 3600 :=
  advance_hardware_lt d a

omit hphase in
theorem spinUpTick_withWave (sp : BitVec 8) (sgn : Int) (b : Nat) :
    spinUpTick (withWave wave) rev sp sgn b a = spinUpTick hardware rev sp sgn b a := by
  rw [spinUpTick, spinUpTick, ← writeDuty_withWave hwave (advance_hardware_lt ..),
    ← spinCountUp_withWave hwave (writeDuty_advance_lt ..)]
  rfl

omit hphase in
theorem spinDownTick_withWave (sp : BitVec 8) (sgn : Int) (b : Nat) :
    spinDownTick (withWave wave) rev sp sgn b a = spinDownTick hardware rev sp sgn b a := by
  rw [spinDownTick, spinDownTick, ← writeDuty_withWave hwave (advance_hardware_lt ..),
    ← spinCountDown_withWave hwave (writeDuty_advance_lt ..)]
  rfl

theorem cruiseCount_withWave (b : Nat) : cruiseCount (withWave wave) rev b a = cruiseCount hardware rev b a := by
  rw [cruiseCount, complete_withWave hwave (a := { a with cruiseSteps := a.cruiseSteps - 1#32 }) hphase, cruiseCount]

theorem cruiseTick_withWave (sgn : Int) (b : Nat) :
    cruiseTick (withWave wave) rev sgn b a = cruiseTick hardware rev sgn b a := by
  rw [cruiseTick, cruiseTick, ← complete_withWave hwave hphase, ← writeDuty_withWave hwave (advance_hardware_lt ..),
    ← cruiseCount_withWave hwave (writeDuty_advance_lt ..)]
  rfl

theorem cwCreepCount_withWave : cwCreepCount (withWave wave) rev a = cwCreepCount hardware rev a := by
  rw [cwCreepCount, complete_withWave hwave (a := { a with cwCreepSteps := a.cwCreepSteps - 1#32 }) hphase, cwCreepCount]

theorem ccwCreepCount_withWave : ccwCreepCount (withWave wave) rev a = ccwCreepCount hardware rev a := by
  rw [ccwCreepCount, complete_withWave hwave (a := { a with ccwCreepSteps := a.ccwCreepSteps - 1#32 }) hphase,
    ccwCreepCount]

theorem cwCreepActive_withWave : cwCreepActive (withWave wave) rev a = cwCreepActive hardware rev a := by
  rw [cwCreepActive, cwCreepActive, ← writeDuty_withWave hwave (advance_hardware_lt ..),
    ← cwCreepCount_withWave hwave (writeDuty_advance_lt ..), ← writeDuty_withWave hwave (a := countCreepTick a) hphase]
  rfl

theorem ccwCreepActive_withWave : ccwCreepActive (withWave wave) rev a = ccwCreepActive hardware rev a := by
  rw [ccwCreepActive, ccwCreepActive, ← writeDuty_withWave hwave (advance_hardware_lt ..),
    ← ccwCreepCount_withWave hwave (writeDuty_advance_lt ..), ← writeDuty_withWave hwave (a := countCreepTick a) hphase]
  rfl

theorem cwCreep_withWave : cwCreep (withWave wave) rev a = cwCreep hardware rev a := by
  have hbumped : (bumpCwCreep hardware a).phaseAngle.toNat < 3600 := by rwa [bumpCwCreep_phaseAngle]
  rw [cwCreep, cwCreep, ← complete_withWave hwave hphase, ← cwCreepActive_withWave hwave hbumped]
  rfl

theorem ccwCreep_withWave : ccwCreep (withWave wave) rev a = ccwCreep hardware rev a := by
  have hbumped : (bumpCcwCreep hardware a).phaseAngle.toNat < 3600 := by rwa [bumpCcwCreep_phaseAngle]
  rw [ccwCreep, ccwCreep, ← complete_withWave hwave hphase, ← ccwCreepActive_withWave hwave hbumped]
  rfl

theorem stageAction_withWave (sp : BitVec 8) (st : Stage) :
    stageAction (withWave wave) rev sp st a = stageAction hardware rev sp st a := by
  cases st with
  | cwSpinup | ccwSpinup => exact spinUpTick_withWave hwave rev sp _ _
  | cwSpindown | ccwSpindown => exact spinDownTick_withWave hwave rev sp _ _
  | cwCruise | ccwCruise => exact cruiseTick_withWave hwave hphase rev _ _
  | cwCreep => exact cwCreep_withWave hwave hphase rev
  | ccwCreep => exact ccwCreep_withWave hwave hphase rev
  | idle => rfl

end Wave

/-- Settles O41: the phase is in range, and an axis tick is a stage action. -/
theorem engineIndexesStayInTheTable : Obligations.EngineIndexesStayInTheTable := by
  unfold Obligations.EngineIndexesStayInTheTable
  intro a rev sp wave ha
  obtain ⟨h0, hA, hB⟩ := dutyIndexes_le ha.phase rev
  exact ⟨h0, hA, hB, by decide, fun hwave => stageAction_withWave hwave ha.phase rev sp (decodeStage a.motionFlags)⟩

end Sys2Proof.Machine
end

section
/-! Durations (41 R164, R165). A counted stage runs in blocks of ticks: those of a ramp step, of a creep step, or the
one tick of a cruise step. Within a block only the sub-count changes, the last tick of a block moves the count, and the
last tick of the last block ends the stage. -/

namespace Sys2Proof.Machine

open Sys2Proof.Claim

/-! ### Blocks of ticks -/

/-- Iterating `f` runs through `count` blocks of `period` steps: `At j r` holds at step `r` of block `j`, and the step
after the last one of the last block reaches `Done`. -/
structure Blocks {α : Type} (f : α → α) (count period : Nat) (At : Nat → Nat → α → Prop) (Done : α → Prop) :
    Prop where
  /-- There is a block. -/
  count_pos : 0 < count
  /-- A block has a step. -/
  period_pos : 0 < period
  /-- A step within a block. -/
  within : ∀ j r a, j < count → r + 1 < period → At j r a → At j (r + 1) (f a)
  /-- The last step of a block, if another follows. -/
  next : ∀ j r a, j + 1 < count → r + 1 = period → At j r a → At (j + 1) 0 (f a)
  /-- The last step of the last block. -/
  last : ∀ j r a, j + 1 = count → r + 1 = period → At j r a → Done (f a)

section Blocks

variable {α : Type} {f : α → α} {count period : Nat} {At : Nat → Nat → α → Prop} {Done : α → Prop} {a : α}

theorem Blocks.iterate_within (h : Blocks f count period At Done) {j r : Nat} (hj : j < count) (hr : r < period)
    (ha : At j 0 a) : At j r (f^[r] a) := by
  induction r with
  | zero => exact ha
  | succ r ih =>
    rw [Function.iterate_succ_apply']
    exact h.within j r _ hj hr (ih (Nat.lt_of_succ_lt hr))

theorem Blocks.iterate_start (h : Blocks f count period At Done) {j : Nat} (hj : j < count) (ha : At 0 0 a) :
    At j 0 (f^[j * period] a) := by
  induction j with
  | zero => rwa [Nat.zero_mul]
  | succ j ih =>
    have hj' := Nat.lt_of_succ_lt hj
    have hlast := h.iterate_within hj' (Nat.sub_lt h.period_pos one_pos) (ih hj')
    have hnext := h.next j _ _ hj (Nat.sub_add_cancel h.period_pos) hlast
    rwa [← Function.iterate_succ_apply' f, ← Function.iterate_add_apply, Nat.succ_eq_add_one,
      Nat.sub_one_add_one h.period_pos.ne', Nat.add_comm period, ← Nat.succ_mul] at hnext

theorem Blocks.iterate (h : Blocks f count period At Done) {j r : Nat} (hj : j < count) (hr : r < period)
    (ha : At 0 0 a) : At j r (f^[j * period + r] a) := by
  rw [Nat.add_comm, Function.iterate_add_apply]
  exact h.iterate_within hj hr (h.iterate_start hj ha)

/-- Every step before the end is one of a block. -/
theorem Blocks.exists_at (h : Blocks f count period At Done) {k : Nat} (hk : k < count * period) (ha : At 0 0 a) :
    ∃ j r, j < count ∧ r < period ∧ At j r (f^[k] a) := by
  have hj : k / period < count := Nat.div_lt_of_lt_mul (by rwa [Nat.mul_comm])
  have hr : k % period < period := Nat.mod_lt k h.period_pos
  have hat := h.iterate hj hr ha
  rw [Nat.mul_comm, Nat.div_add_mod] at hat
  exact ⟨_, _, hj, hr, hat⟩

theorem Blocks.iterate_all (h : Blocks f count period At Done) (ha : At 0 0 a) : Done (f^[count * period] a) := by
  obtain ⟨j, rfl⟩ := Nat.exists_eq_add_one_of_ne_zero h.count_pos.ne'
  obtain ⟨r, rfl⟩ := Nat.exists_eq_add_one_of_ne_zero h.period_pos.ne'
  have hlast := h.last j r _ rfl rfl (h.iterate (Nat.lt_succ_self j) (Nat.lt_succ_self r) ha)
  rwa [← Function.iterate_succ_apply' f, Nat.succ_eq_add_one, Nat.add_assoc, ← Nat.succ_mul] at hlast

end Blocks

/-! ### Displacements -/

/-- The phase is `x` units, modulo a turn. -/
def PhaseAt (x : Int) (a : AxisState) : Prop := (a.phaseAngle.toNat : Int) % 3600 = x % 3600

theorem phaseAt_self (a : AxisState) : PhaseAt a.phaseAngle.toNat a := rfl

theorem PhaseAt.move {x d y : Int} {a a' : AxisState} (h : PhaseAt x a) (hmoved : PhaseMoved d a a') (hy : y = x + d) :
    PhaseAt y a' := by
  unfold PhaseAt PhaseMoved at *
  omega

theorem PhaseAt.keep {x y : Int} {a a' : AxisState} (h : PhaseAt x a) (hkept : a'.phaseAngle = a.phaseAngle) (hy : y = x) :
    PhaseAt y a' := by
  rw [PhaseAt, hkept, hy]
  exact h

/-- A last move makes the displacement exact, from whatever phase the axis started. -/
theorem phaseMoved_of_phaseAt {x d e : Int} {a b c : AxisState} (h : PhaseAt x b) (hmoved : PhaseMoved d b c)
    (hx : x + d = a.phaseAngle.toNat + e) : PhaseMoved e a c := by
  unfold PhaseAt PhaseMoved at *
  omega

theorem phaseMoved_add {d e : Int} {a b c : AxisState} (h : PhaseMoved d a b) (h' : PhaseMoved e b c) :
    PhaseMoved (d + e) a c := by
  unfold PhaseMoved at *
  omega

theorem phaseMoved_zero {a a' : AxisState} (hphase : a.phaseAngle.toNat < 3600) (hkept : a'.phaseAngle = a.phaseAngle) :
    PhaseMoved 0 a a' := by
  rw [PhaseMoved, hkept]
  omega

/-! ### A spin stage (41 R154) -/

/-- The axis with what a spin stage writes blanked: two axes agree on the rest when these are equal. -/
def besideSpin (a : AxisState) : AxisState :=
  { a with
    phaseAngle := 0, motionFlags := 0, spinPointer := 0, spinSubcount := 0, pwmCcr0 := 0, pwmCcr1 := 0, pwmCcr2 := 0 }

/-- The pointer `ptr j` of ramp step `j` of a spin stage: it moves by `next` and reaches `stop` with the last of `count`
steps. -/
structure RampPath (next : Nat → Nat) (stop count : Nat) (ptr : Nat → Nat) : Prop where
  /-- There is a step. -/
  count_pos : 0 < count
  /-- A step but the last. -/
  more : ∀ j, j + 1 < count → next (ptr j) = ptr (j + 1) ∧ ptr (j + 1) ≠ stop
  /-- The last step. -/
  last : ∀ j, j + 1 = count → next (ptr j) = stop

section Spin

variable {rev : Bool} {sp : BitVec 8} {sgn : Int} {cur : AxisState → Nat} {b stop count : Nat} {next ptr : Nat → Nat}
  {a : AxisState}

/-- The axis runs the spin stage of the word of `a`: on the axis, a tick does what `SpinResult` says. -/
def Spins (rev : Bool) (sp : BitVec 8) (sgn : Int) (cur : AxisState → Nat) (b : Nat) (next : Nat → Nat) (stop : Nat)
    (w : StageWord) : Prop :=
  ∀ x : AxisState, x.motionFlags = w →
    SpinResult rev sp.toNat sgn (cur x) b (next x.spinPointer.toNat) stop x (tickOf rev sp x)

/-- The units moved up to tick `r` of ramp step `j`. -/
def spinUnits (period : Nat) (ptr : Nat → Nat) (j r : Nat) : Nat := period * ∑ i ∈ Finset.range j, ptr i + r * ptr j

/-- Tick `r` of ramp step `j` of the spin stage that started at `a`. -/
structure SpinAt (sgn : Int) (period : Nat) (ptr : Nat → Nat) (a : AxisState) (j r : Nat) (x : AxisState) : Prop where
  /-- The stage is active. -/
  flags : x.motionFlags = a.motionFlags
  /-- The pointer of the step. -/
  pointer : x.spinPointer.toNat = ptr j
  /-- The sub-count is the tick within the step. -/
  sub : x.spinSubcount.toNat = r
  /-- The units moved so far. -/
  phase : PhaseAt (a.phaseAngle.toNat + sgn * spinUnits period ptr j r) x
  /-- The rest of the axis. -/
  rest : besideSpin x = besideSpin a

/-- The end of the spin stage that started at `a`, after `units`. -/
structure SpinDone (sgn : Int) (b stop units : Nat) (a x : AxisState) : Prop where
  /-- The stage's bit is cleared. -/
  cleared : BitCleared b a.motionFlags x.motionFlags
  /-- The pointer is at its end value. -/
  pointer : x.spinPointer.toNat = stop
  /-- The sub-count is back at 0. -/
  sub : x.spinSubcount = 0#8
  /-- The units moved. -/
  moved : PhaseMoved (sgn * units) a x
  /-- The rest of the axis. -/
  rest : besideSpin x = besideSpin a

theorem besideSpin_of_spinResult {n : Nat} {c next : Nat} {x x' : AxisState}
    (h : SpinResult rev n sgn c b next stop x x') : besideSpin x' = besideSpin x := by
  rw [h.rest]
  rfl

theorem spinUnits_succ_tick (period : Nat) (ptr : Nat → Nat) (j r : Nat) :
    spinUnits period ptr j (r + 1) = spinUnits period ptr j r + ptr j := by
  rw [spinUnits, spinUnits, Nat.succ_mul, Nat.add_assoc]

theorem spinUnits_succ_step {period r : Nat} (ptr : Nat → Nat) (j : Nat) (hr : r + 1 = period) :
    spinUnits period ptr (j + 1) 0 = spinUnits period ptr j r + ptr j := by
  rw [spinUnits, spinUnits, Finset.sum_range_succ, Nat.zero_mul, Nat.add_zero, Nat.mul_add, Nat.add_assoc, ← Nat.succ_mul,
    Nat.succ_eq_add_one, hr]

theorem spinUnits_start (period : Nat) (ptr : Nat → Nat) : spinUnits period ptr 0 0 = 0 := by
  simp [spinUnits]

theorem spinBlocks (hspins : Spins rev sp sgn cur b next stop a.motionFlags) (hpath : RampPath next stop count ptr) :
    Blocks (tickOf rev sp) count (max sp.toNat 1) (SpinAt sgn (max sp.toNat 1) ptr a)
      (SpinDone sgn b stop (spinUnits (max sp.toNat 1) ptr count 0) a) where
  count_pos := hpath.count_pos
  period_pos := lt_max_of_lt_right one_pos
  within j r x _ hr hx := by
    have hres := hspins x hx.flags
    have hmoved := hres.phase
    obtain ⟨hsub, hpointer, hflags, -⟩ := hres.waits (by rw [hx.sub]; omega)
    rw [hardware_ramp, hx.pointer] at hmoved
    exact {
      flags := hflags.trans hx.flags
      pointer := by rw [hpointer, hx.pointer]
      sub := by rw [hsub, hx.sub]
      phase := hx.phase.move hmoved (by rw [spinUnits_succ_tick]; push_cast; ring)
      rest := (besideSpin_of_spinResult hres).trans hx.rest }
  next j r x hj hr hx := by
    have hres := hspins x hx.flags
    have hmoved := hres.phase
    obtain ⟨hnext, hne⟩ := hpath.more j hj
    obtain ⟨hsub, hpointer, hstays, -⟩ := hres.ramps (by rw [hx.sub]; omega)
    rw [hx.pointer, hnext] at hpointer hstays
    obtain ⟨hflags, -⟩ := hstays hne
    rw [hardware_ramp, hx.pointer] at hmoved
    exact {
      flags := hflags.trans hx.flags
      pointer := hpointer
      sub := by rw [hsub]; rfl
      phase := hx.phase.move hmoved (by rw [spinUnits_succ_step ptr j hr]; push_cast; ring)
      rest := (besideSpin_of_spinResult hres).trans hx.rest }
  last j r x hj hr hx := by
    have hres := hspins x hx.flags
    have hmoved := hres.phase
    have hstop := hpath.last j hj
    obtain ⟨hsub, hpointer, -, hends⟩ := hres.ramps (by rw [hx.sub]; omega)
    rw [hx.pointer, hstop] at hpointer hends
    obtain ⟨hcleared, -⟩ := hends rfl
    rw [hardware_ramp, hx.pointer] at hmoved
    exact {
      cleared := hx.flags ▸ hcleared
      pointer := hpointer
      sub := hsub
      moved := phaseMoved_of_phaseAt hx.phase hmoved (by rw [← hj, spinUnits_succ_step ptr j hr]; push_cast; ring)
      rest := (besideSpin_of_spinResult hres).trans hx.rest }

theorem spinAt_start (hsub : a.spinSubcount = 0#8) (hptr : a.spinPointer.toNat = ptr 0) (period : Nat) :
    SpinAt sgn period ptr a 0 0 a where
  flags := rfl
  pointer := hptr
  sub := by rw [hsub]; rfl
  phase := (phaseAt_self a).keep rfl (by rw [spinUnits_start]; simp)
  rest := rfl

/-- A whole spin stage, from its start to its end. -/
theorem iterate_spin (hspins : Spins rev sp sgn cur b next stop a.motionFlags) (hpath : RampPath next stop count ptr)
    (hsub : a.spinSubcount = 0#8) (hptr : a.spinPointer.toNat = ptr 0) :
    (∀ k, k < count * max sp.toNat 1 → ((tickOf rev sp)^[k] a).motionFlags = a.motionFlags) ∧
    SpinDone sgn b stop (spinUnits (max sp.toNat 1) ptr count 0) a ((tickOf rev sp)^[count * max sp.toNat 1] a) := by
  have hblocks := spinBlocks hspins hpath
  have hstart := spinAt_start (sgn := sgn) hsub hptr (max sp.toNat 1)
  refine ⟨fun k hk => ?_, hblocks.iterate_all hstart⟩
  obtain ⟨j, r, -, -, hat⟩ := hblocks.exists_at hk hstart
  exact hat.flags

end Spin

/-! ### The two directions -/

/-- A direction of motion: its stages differ in the sign of the displacement, the bits and the creep registers (41 R155
to R162). -/
inductive Direction where
  | cw
  | ccw

namespace Direction

/-- The sign of a displacement. -/
def sgn : Direction → Int
  | .cw => 1
  | .ccw => -1

/-- The spin-up stage. -/
def spinUp : Direction → Stage
  | .cw => .cwSpinup
  | .ccw => .ccwSpinup

/-- The cruise stage. -/
def cruise : Direction → Stage
  | .cw => .cwCruise
  | .ccw => .ccwCruise

/-- The spin-down stage. -/
def spinDown : Direction → Stage
  | .cw => .cwSpindown
  | .ccw => .ccwSpindown

/-- The creep stage. -/
def creep : Direction → Stage
  | .cw => .cwCreep
  | .ccw => .ccwCreep

/-- The bit of the spin-up stage. -/
def spinUpBit : Direction → Nat
  | .cw => 7
  | .ccw => 4

/-- The bit of the cruise stage. -/
def cruiseBit : Direction → Nat
  | .cw => 6
  | .ccw => 3

/-- The bit of the spin-down stage. -/
def spinDownBit : Direction → Nat
  | .cw => 5
  | .ccw => 2

/-- The bit of the creep stage. -/
def creepBit : Direction → Nat
  | .cw => 0
  | .ccw => 1

/-- The step counter of the creep stage. -/
def creepSteps : Direction → AxisState → BitVec 32
  | .cw => AxisState.cwCreepSteps
  | .ccw => AxisState.ccwCreepSteps

/-- The operating current of the creep stage. -/
def creepCurOp : Direction → AxisState → BitVec 7
  | .cw => AxisState.cwCreepCurOp
  | .ccw => AxisState.ccwCreepCurOp

end Direction

/-! ### Spin-up (41 R155, R158) -/

/-- The pointer after a ramp step of a spin-up (41 R154). -/
def pointerAbove (p : Nat) : Nat := if p < 33 then p + 1 else p

/-- The ramp steps of a spin-up entered at pointer `p`. -/
def spinUpCount (p : Nat) : Nat := if p < 33 then 33 - p else 1

theorem spinUpPath {p : Nat} (hp : p ≤ 33) : RampPath pointerAbove 33 (spinUpCount p) (p + ·) where
  count_pos := by unfold spinUpCount; split <;> omega
  more j hj := by
    unfold spinUpCount at hj
    unfold pointerAbove
    split at hj <;> split <;> omega
  last j hj := by
    unfold spinUpCount at hj
    unfold pointerAbove
    split at hj <;> split <;> omega

theorem spins_up (d : Direction) (rev : Bool) (sp : BitVec 8) {w : StageWord} (hw : decodeStage w = d.spinUp) :
    Spins rev sp d.sgn (fun x => x.curSpinup.toNat) d.spinUpBit pointerAbove 33 w := by
  rintro x rfl
  rw [tickOf_of_decodeStage hw]
  cases d with
  | cw => exact spinResult_spinUpTick rev sp 1 x (by decide)
  | ccw => exact spinResult_spinUpTick rev sp (-1) x (by decide)

/-- The units of a spin-up entered at pointer `p` (41 R165). -/
theorem spinUnits_up {p : Nat} (hp : p ≤ 33) (period : Nat) : spinUnits period (p + ·) (spinUpCount p) 0 =
    (if p < 33 then ∑ i ∈ Finset.Ico p 33, i else 33) * period := by
  unfold spinUnits spinUpCount
  split
  · rw [Finset.sum_Ico_eq_sum_range, Nat.zero_mul, Nat.add_zero, Nat.mul_comm]
  · rw [Finset.sum_range_one, Nat.zero_mul, Nat.add_zero, Nat.mul_comm, show p + 0 = 33 by omega]

/-- Settles O33: the ramp steps of a spin-up, in either direction. -/
theorem spinUpDuration : Obligations.SpinUpDuration := by
  unfold Obligations.SpinUpDuration
  intro rev sp a st sgn n moved hst hstage hsub hp hn hmoved
  obtain ⟨d, rfl, rfl, hbit⟩ : ∃ d : Direction, st = d.spinUp ∧ sgn = d.sgn ∧
      (if st = .cwSpinup then 7 else 4) = d.spinUpBit := by
    obtain ⟨rfl, rfl⟩ | ⟨rfl, rfl⟩ := hst
    · exact ⟨.cw, rfl, rfl, rfl⟩
    · exact ⟨.ccw, rfl, rfl, rfl⟩
  obtain ⟨hbefore, hcleared, hpointer, hsub', hunits, -⟩ :=
    iterate_spin (spins_up d rev sp hstage) (spinUpPath hp) hsub rfl
  rw [spinUnits_up hp, ← hmoved] at hunits
  rw [hbit, hn]
  exact ⟨hbefore, hcleared, BitVec.eq_of_toNat_eq hpointer, hsub', hunits⟩

/-! ### The pointer of a spin-up, tick by tick (41 R154) -/

theorem spinPointer_le_of_spinResult {rev : Bool} {n : Nat} {sgn : Int} {c b next stop : Nat} {a a' : AxisState}
    (h : SpinResult rev n sgn c b next stop a a') (ha : a.spinPointer.toNat ≤ 33) (hnext : next ≤ 33) :
    a'.spinPointer.toNat ≤ 33 := by
  by_cases hdue : n ≤ a.spinSubcount.toNat + 1
  · obtain ⟨-, hpointer, -⟩ := h.ramps hdue
    exact hpointer.trans_le hnext
  · obtain ⟨-, hpointer, -⟩ := h.waits (not_le.mp hdue)
    rwa [hpointer]

theorem pointerAbove_le {p : Nat} (hp : p ≤ 33) : pointerAbove p ≤ 33 := by
  unfold pointerAbove
  split <;> omega

theorem spinPointer_of_cruiseResult {rev : Bool} {sgn : Int} {b : Nat} {a a' : AxisState}
    (h : CruiseResult rev sgn b a a') : a'.spinPointer = a.spinPointer := by
  rw [h.rest]

/-- Whatever stage is active, the pointer stays in the ramp table. -/
theorem tickOf_spinPointer_le (rev : Bool) (sp : BitVec 8) {a : AxisState} (ha : a.spinPointer.toNat ≤ 33) :
    (tickOf rev sp a).spinPointer.toNat ≤ 33 := by
  have hbelow : a.spinPointer.toNat - 1 ≤ 33 := (Nat.sub_le _ 1).trans ha
  unfold tickOf axisTick
  cases decodeStage a.motionFlags with
  | cwSpinup =>
    exact spinPointer_le_of_spinResult (spinResult_spinUpTick rev sp 1 a (b := 7) (by decide)) ha (pointerAbove_le ha)
  | ccwSpinup =>
    exact spinPointer_le_of_spinResult (spinResult_spinUpTick rev sp (-1) a (b := 4) (by decide)) ha (pointerAbove_le ha)
  | cwSpindown => exact spinPointer_le_of_spinResult (spinResult_spinDownTick rev sp 1 a (b := 5) (by decide)) ha hbelow
  | ccwSpindown => exact spinPointer_le_of_spinResult (spinResult_spinDownTick rev sp (-1) a (b := 2) (by decide)) ha hbelow
  | cwCruise => exact (spinPointer_of_cruiseResult (cruiseResult_cruiseTick rev 1 a (b := 6) (by decide))) ▸ ha
  | ccwCruise => exact (spinPointer_of_cruiseResult (cruiseResult_cruiseTick rev (-1) a (b := 3) (by decide))) ▸ ha
  | cwCreep =>
    have hkept : (cwCreep hardware rev a).spinPointer = a.spinPointer := by rw [cwCreep_frame]
    exact hkept ▸ ha
  | ccwCreep =>
    have hkept : (ccwCreep hardware rev a).spinPointer = a.spinPointer := by rw [ccwCreep_frame]
    exact hkept ▸ ha
  | idle => exact ha

theorem iterate_tickOf_spinPointer_le (rev : Bool) (sp : BitVec 8) {a : AxisState} (ha : a.spinPointer.toNat ≤ 33)
    (k : Nat) : ((tickOf rev sp)^[k] a).spinPointer.toNat ≤ 33 := by
  induction k with
  | zero => exact ha
  | succ k ih =>
    rw [Function.iterate_succ_apply']
    exact tickOf_spinPointer_le rev sp ih

/-- Settles O32: within the stage the pointer is that of the ramp step, at its end it is 33; the bound holds in any
stage. -/
theorem pointerAdvancesEveryPeriod : Obligations.PointerAdvancesEveryPeriod := by
  unfold Obligations.PointerAdvancesEveryPeriod
  intro rev sp a hstage hsub hp
  obtain ⟨d, hd⟩ : ∃ d : Direction, decodeStage a.motionFlags = d.spinUp := by
    obtain h | h := hstage
    · exact ⟨.cw, h⟩
    · exact ⟨.ccw, h⟩
  have hblocks := spinBlocks (a := a) (spins_up d rev sp hd) (spinUpPath hp)
  have hstart := spinAt_start (sgn := d.sgn) (ptr := (a.spinPointer.toNat + ·)) hsub rfl (max sp.toNat 1)
  have hcount {j : Nat} (hj : a.spinPointer.toNat + j < 33) : spinUpCount a.spinPointer.toNat = 33 - a.spinPointer.toNat :=
    if_pos (by omega)
  refine ⟨fun j r hj hr => ?_, fun j hj => ?_, iterate_tickOf_spinPointer_le rev sp hp⟩
  · exact (hblocks.iterate (by rw [hcount hj]; omega) hr hstart).pointer
  · obtain hlt | heq := hj.lt_or_eq
    · exact (hblocks.iterate_start (by rw [hcount hlt]; omega) hstart).pointer
    · by_cases hzero : j = 0
      · rw [hzero, Nat.zero_mul]
        rfl
      · have hdone := (hblocks.iterate_all hstart).pointer
        rwa [hcount (j := 0) (by omega), show 33 - a.spinPointer.toNat = j by omega, ← heq] at hdone

/-! ### Spin-down (41 R157, R160) -/

/-- The ramp steps of a spin-down entered at pointer `p`. -/
def spinDownCount (p : Nat) : Nat := if 0 < p then p else 1

theorem spinDownPath (p : Nat) : RampPath (· - 1) 0 (spinDownCount p) (p - ·) where
  count_pos := by unfold spinDownCount; split <;> omega
  more j hj := by
    unfold spinDownCount at hj
    split at hj <;> omega
  last j hj := by
    unfold spinDownCount at hj
    split at hj <;> omega

theorem spins_down (d : Direction) (rev : Bool) (sp : BitVec 8) {w : StageWord} (hw : decodeStage w = d.spinDown) :
    Spins rev sp d.sgn (fun x => x.curSpindown.toNat) d.spinDownBit (· - 1) 0 w := by
  rintro x rfl
  rw [tickOf_of_decodeStage hw]
  cases d with
  | cw => exact spinResult_spinDownTick rev sp 1 x (by decide)
  | ccw => exact spinResult_spinDownTick rev sp (-1) x (by decide)

/-- The pointers `p` down to 1, added up. -/
theorem sum_range_sub (p : Nat) : ∑ i ∈ Finset.range p, (p - i) = ∑ i ∈ Finset.Icc 1 p, i := by
  induction p with
  | zero => rfl
  | succ p ih =>
    rw [Finset.sum_range_succ', Finset.sum_Icc_succ_top (by omega), ← ih, Nat.sub_zero]
    refine congrArg (· + (p + 1)) (Finset.sum_congr rfl fun i _ => ?_)
    omega

/-- The units of a spin-down entered at pointer `p` (41 R165). -/
theorem spinUnits_down (p period : Nat) : spinUnits period (p - ·) (spinDownCount p) 0 =
    (∑ i ∈ Finset.Icc 1 p, i) * period := by
  unfold spinUnits spinDownCount
  rw [Nat.zero_mul, Nat.add_zero, Nat.mul_comm, ← sum_range_sub]
  split
  · rfl
  · rw [Finset.sum_range_one, show p = 0 by omega]
    rfl

/-- Settles O34: the ramp steps of a spin-down, in either direction. -/
theorem spinDownDuration : Obligations.SpinDownDuration := by
  unfold Obligations.SpinDownDuration
  intro rev sp a st sgn n moved hst hstage hsub _ hn hmoved
  obtain ⟨d, rfl, rfl, hbit⟩ : ∃ d : Direction, st = d.spinDown ∧ sgn = d.sgn ∧
      (if st = .cwSpindown then 5 else 2) = d.spinDownBit := by
    obtain ⟨rfl, rfl⟩ | ⟨rfl, rfl⟩ := hst
    · exact ⟨.cw, rfl, rfl, rfl⟩
    · exact ⟨.ccw, rfl, rfl, rfl⟩
  obtain ⟨hbefore, hcleared, hpointer, hsub', hunits, -⟩ :=
    iterate_spin (spins_down d rev sp hstage) (spinDownPath a.spinPointer.toNat) hsub rfl
  rw [spinUnits_down, ← hmoved] at hunits
  rw [hbit, hn]
  exact ⟨hbefore, hcleared, BitVec.eq_of_toNat_eq hpointer, hsub', hunits⟩

end Sys2Proof.Machine
end

section
/-! The counted stages, and a full move (41 R156, R159, R161, R162, R164, R165). -/

namespace Sys2Proof.Machine

open Sys2Proof.Claim

/-! ### A cruise stage -/

/-- The axis with what a cruise stage writes blanked. -/
def besideCruise (a : AxisState) : AxisState :=
  { a with phaseAngle := 0, motionFlags := 0, cruiseSteps := 0, pwmCcr0 := 0, pwmCcr1 := 0, pwmCcr2 := 0 }

/-- A tick of a cruise stage of the word `w` does what `CruiseResult` says. -/
def Cruises (rev : Bool) (sp : BitVec 8) (sgn : Int) (b : Nat) (w : StageWord) : Prop :=
  ∀ x : AxisState, x.motionFlags = w → CruiseResult rev sgn b x (tickOf rev sp x)

/-- The cruise stage that started at `a`, after `j` counts; each tick is a block. -/
structure CruiseAt (sgn : Int) (a : AxisState) (j r : Nat) (x : AxisState) : Prop where
  /-- The stage is active. -/
  flags : x.motionFlags = a.motionFlags
  /-- The counts left. -/
  steps : x.cruiseSteps.toNat + j = a.cruiseSteps.toNat
  /-- The units moved so far. -/
  phase : PhaseAt (a.phaseAngle.toNat + sgn * (33 * j)) x
  /-- The rest of the axis. -/
  rest : besideCruise x = besideCruise a

/-- The end of the cruise stage that started at `a`. -/
structure CruiseDone (sgn : Int) (b : Nat) (a x : AxisState) : Prop where
  /-- The stage's bit is cleared. -/
  cleared : BitCleared b a.motionFlags x.motionFlags
  /-- No count is left. -/
  steps : x.cruiseSteps = 0#32
  /-- The units moved. -/
  moved : PhaseMoved (sgn * (33 * a.cruiseSteps.toNat)) a x
  /-- The rest of the axis. -/
  rest : besideCruise x = besideCruise a

theorem besideCruise_of_cruiseResult {rev : Bool} {sgn : Int} {b : Nat} {x x' : AxisState}
    (h : CruiseResult rev sgn b x x') : besideCruise x' = besideCruise x := by
  rw [h.rest]
  rfl

theorem toNat_eq_zero_iff {n : BitVec 32} : n.toNat = 0 ↔ n = 0#32 :=
  ⟨fun h => BitVec.eq_of_toNat_eq h, fun h => by rw [h]; rfl⟩

section Cruise

variable {rev : Bool} {sp : BitVec 8} {sgn : Int} {b : Nat} {a : AxisState}

theorem cruiseBlocks (hcruises : Cruises rev sp sgn b a.motionFlags) (hcount : 0 < a.cruiseSteps.toNat) :
    Blocks (tickOf rev sp) a.cruiseSteps.toNat 1 (CruiseAt sgn a) (CruiseDone sgn b a) where
  count_pos := hcount
  period_pos := one_pos
  within _ _ _ _ hr _ := absurd hr (by omega)
  next j r x hj _ hx := by
    have hleft := hx.steps
    have hres := hcruises x hx.flags
    obtain ⟨hmoved, hsteps, hstays, -⟩ := hres.moves (mt toNat_eq_zero_iff.mpr (by omega))
    obtain ⟨hflags, -⟩ := hstays (mt toNat_eq_zero_iff.mpr (by omega))
    exact {
      flags := hflags.trans hx.flags
      steps := by omega
      phase := hx.phase.move hmoved (by push_cast; ring)
      rest := (besideCruise_of_cruiseResult hres).trans hx.rest }
  last j r x hj _ hx := by
    have hleft := hx.steps
    have hres := hcruises x hx.flags
    obtain ⟨hmoved, hsteps, -, hends⟩ := hres.moves (mt toNat_eq_zero_iff.mpr (by omega))
    have hzero := toNat_eq_zero_iff.mp (show (tickOf rev sp x).cruiseSteps.toNat = 0 by omega)
    obtain ⟨hcleared, -⟩ := hends hzero
    exact {
      cleared := hx.flags ▸ hcleared
      steps := hzero
      moved := phaseMoved_of_phaseAt hx.phase hmoved (by rw [← hj]; push_cast; ring)
      rest := (besideCruise_of_cruiseResult hres).trans hx.rest }

theorem cruiseAt_start (sgn : Int) (a : AxisState) : CruiseAt sgn a 0 0 a where
  flags := rfl
  steps := rfl
  phase := (phaseAt_self a).keep rfl (by simp)
  rest := rfl

/-- A whole cruise stage with a count. -/
theorem iterate_cruise (hcruises : Cruises rev sp sgn b a.motionFlags) (hcount : 0 < a.cruiseSteps.toNat) :
    (∀ k, k < a.cruiseSteps.toNat → ((tickOf rev sp)^[k] a).motionFlags = a.motionFlags) ∧
    CruiseDone sgn b a ((tickOf rev sp)^[a.cruiseSteps.toNat] a) := by
  have hblocks := cruiseBlocks hcruises hcount
  have hstart := cruiseAt_start sgn a
  refine ⟨fun k hk => ?_, ?_⟩
  · obtain ⟨j, r, -, -, hat⟩ := hblocks.exists_at (by rwa [Nat.mul_one]) hstart
    exact hat.flags
  · have hdone := hblocks.iterate_all hstart
    rwa [Nat.mul_one] at hdone

/-- A cruise stage with a count of 0 ends with its first tick. -/
theorem cruiseDone_of_empty (hcruises : Cruises rev sp sgn b a.motionFlags) (hphase : a.phaseAngle.toNat < 3600)
    (hcount : a.cruiseSteps = 0#32) : CruiseDone sgn b a (tickOf rev sp a) := by
  have hres := hcruises a rfl
  obtain ⟨hsteps, hkept, hcleared, -⟩ := hres.empty hcount
  refine ⟨hcleared, hsteps, ?_, besideCruise_of_cruiseResult hres⟩
  rw [toNat_eq_zero_iff.mpr hcount, Nat.cast_zero, mul_zero, mul_zero]
  exact phaseMoved_zero hphase hkept

end Cruise

theorem cruises (d : Direction) (rev : Bool) (sp : BitVec 8) {w : StageWord} (hw : decodeStage w = d.cruise) :
    Cruises rev sp d.sgn d.cruiseBit w := by
  rintro x rfl
  rw [tickOf_of_decodeStage hw]
  cases d with
  | cw => exact cruiseResult_cruiseTick rev 1 x (by decide)
  | ccw => exact cruiseResult_cruiseTick rev (-1) x (by decide)

/-- Settles O35: a stage with a count runs its ticks, one without ends at once. -/
theorem cruiseDuration : Obligations.CruiseDuration := by
  unfold Obligations.CruiseDuration
  intro rev sp a st sgn hst hstage hphase
  obtain ⟨d, rfl, rfl, hbit⟩ : ∃ d : Direction, st = d.cruise ∧ sgn = d.sgn ∧
      (if st = .cwCruise then 6 else 3) = d.cruiseBit := by
    obtain ⟨rfl, rfl⟩ | ⟨rfl, rfl⟩ := hst
    · exact ⟨.cw, rfl, rfl, rfl⟩
    · exact ⟨.ccw, rfl, rfl, rfl⟩
  have hcruises := cruises d rev sp hstage
  rw [hbit]
  by_cases hcount : a.cruiseSteps.toNat = 0
  · obtain ⟨hcleared, hsteps, hmoved, -⟩ := cruiseDone_of_empty hcruises hphase (toNat_eq_zero_iff.mp hcount)
    have hone : max a.cruiseSteps.toNat 1 = 1 := by omega
    rw [hone]
    refine ⟨fun k hk => ?_, hcleared, hsteps, hmoved⟩
    rw [Nat.lt_one_iff.mp hk]
    rfl
  · obtain ⟨hbefore, hcleared, hsteps, hmoved, -⟩ := iterate_cruise hcruises (Nat.pos_of_ne_zero hcount)
    rw [max_eq_left (Nat.one_le_iff_ne_zero.mpr hcount)]
    exact ⟨hbefore, hcleared, hsteps, hmoved⟩

/-! ### A creep stage -/

/-- The axis with what a creep stage of either direction writes blanked. -/
def besideCreep (a : AxisState) : AxisState :=
  { a with
    phaseAngle := 0, motionFlags := 0, creepSubcount := 0, cwCreepSteps := 0, ccwCreepSteps := 0, cwCreepCurOp := 0,
    ccwCreepCurOp := 0, pwmCcr0 := 0, pwmCcr1 := 0, pwmCcr2 := 0 }

/-- A tick of the creep stage of the word `w` does what `CreepResult` says, and writes nothing else. -/
def Creeps (d : Direction) (rev : Bool) (sp : BitVec 8) (w : StageWord) : Prop :=
  ∀ x : AxisState, x.motionFlags = w →
    CreepResult rev d.sgn d.creepBit d.creepSteps d.creepCurOp (x.bump.getLsbD d.creepBit) x (tickOf rev sp x) ∧
      besideCreep (tickOf rev sp x) = besideCreep x

theorem besideCreep_cwCreep (rev : Bool) (x : AxisState) : besideCreep (cwCreep hardware rev x) = besideCreep x := by
  rw [cwCreep_frame]
  rfl

theorem besideCreep_ccwCreep (rev : Bool) (x : AxisState) : besideCreep (ccwCreep hardware rev x) = besideCreep x := by
  rw [ccwCreep_frame]
  rfl

theorem creeps (d : Direction) (rev : Bool) (sp : BitVec 8) {w : StageWord} (hw : decodeStage w = d.creep) :
    Creeps d rev sp w := by
  rintro x rfl
  rw [tickOf_of_decodeStage hw]
  cases d with
  | cw => exact ⟨creepResult_cwCreep rev x, besideCreep_cwCreep rev x⟩
  | ccw => exact ⟨creepResult_ccwCreep rev x, besideCreep_ccwCreep rev x⟩

/-- Tick `r` of creep step `j` of the creep stage that started at `a`. -/
structure CreepAt (d : Direction) (a : AxisState) (j r : Nat) (x : AxisState) : Prop where
  /-- The stage is active. -/
  flags : x.motionFlags = a.motionFlags
  /-- The steps left. -/
  steps : (d.creepSteps x).toNat + j = (d.creepSteps a).toNat
  /-- The sub-count is the tick within the step. -/
  sub : x.creepSubcount.toNat = r
  /-- The units moved so far. -/
  phase : PhaseAt (a.phaseAngle.toNat + d.sgn * j) x
  /-- The rest of the axis. -/
  rest : besideCreep x = besideCreep a

/-- The end of the creep stage that started at `a`. -/
structure CreepDone (d : Direction) (rev : Bool) (a x : AxisState) : Prop where
  /-- The stage's bit is cleared. -/
  cleared : BitCleared d.creepBit a.motionFlags x.motionFlags
  /-- The sub-count is back at 0. -/
  sub : x.creepSubcount = 0#8
  /-- The units moved. -/
  moved : PhaseMoved (d.sgn * (d.creepSteps a).toNat) a x
  /-- An axis that becomes idle drops its current. -/
  drop : x.motionFlags = 0#8 → DutiesAre rev a.curDrop.toNat x
  /-- The rest of the axis. -/
  rest : besideCreep x = besideCreep a

section Creep

variable {d : Direction} {rev : Bool} {sp : BitVec 8} {a : AxisState}

theorem CreepAt.creepPeriod_eq {j r : Nat} {x : AxisState} (h : CreepAt d a j r x) : x.creepPeriod = a.creepPeriod :=
  show (besideCreep x).creepPeriod = (besideCreep a).creepPeriod from congrArg AxisState.creepPeriod h.rest

theorem CreepAt.curDrop_eq {j r : Nat} {x : AxisState} (h : CreepAt d a j r x) : x.curDrop = a.curDrop :=
  show (besideCreep x).curDrop = (besideCreep a).curDrop from congrArg AxisState.curDrop h.rest

theorem creepBlocks (hcreeps : Creeps d rev sp a.motionFlags) (hcount : 0 < (d.creepSteps a).toNat) :
    Blocks (tickOf rev sp) (d.creepSteps a).toNat (max a.creepPeriod.toNat 1) (CreepAt d a) (CreepDone d rev a) where
  count_pos := hcount
  period_pos := lt_max_of_lt_right one_pos
  within j r x hj hr hx := by
    have hleft := hx.steps
    obtain ⟨hres, hrest⟩ := hcreeps x hx.flags
    obtain ⟨hsub, hkept, hsteps, hflags, -⟩ := hres.waits (mt toNat_eq_zero_iff.mpr (by omega))
      (by rw [hx.sub, hx.creepPeriod_eq]; omega)
    exact {
      flags := hflags.trans hx.flags
      steps := by rw [hsteps, hleft]
      sub := by rw [hsub, hx.sub]
      phase := hx.phase.keep hkept rfl
      rest := hrest.trans hx.rest }
  next j r x hj hr hx := by
    have hleft := hx.steps
    obtain ⟨hres, hrest⟩ := hcreeps x hx.flags
    obtain ⟨hsub, hmoved, hsteps, hstays, -⟩ := hres.moves (mt toNat_eq_zero_iff.mpr (by omega))
      (by rw [hx.sub, hx.creepPeriod_eq]; omega)
    obtain ⟨hflags, -⟩ := hstays (mt toNat_eq_zero_iff.mpr (by omega))
    exact {
      flags := hflags.trans hx.flags
      steps := by omega
      sub := by rw [hsub]; rfl
      phase := hx.phase.move hmoved (by push_cast; ring)
      rest := hrest.trans hx.rest }
  last j r x hj hr hx := by
    have hleft := hx.steps
    obtain ⟨hres, hrest⟩ := hcreeps x hx.flags
    obtain ⟨hsub, hmoved, hsteps, -, hends⟩ := hres.moves (mt toNat_eq_zero_iff.mpr (by omega))
      (by rw [hx.sub, hx.creepPeriod_eq]; omega)
    obtain ⟨hcleared, -, hdrop⟩ := hends (toNat_eq_zero_iff.mp (by omega))
    exact {
      cleared := hx.flags ▸ hcleared
      sub := hsub
      moved := phaseMoved_of_phaseAt hx.phase hmoved (by rw [← hj]; push_cast; ring)
      drop := hx.curDrop_eq ▸ hdrop
      rest := hrest.trans hx.rest }

theorem creepAt_start (d : Direction) (hsub : a.creepSubcount = 0#8) : CreepAt d a 0 0 a where
  flags := rfl
  steps := rfl
  sub := by rw [hsub]; rfl
  phase := (phaseAt_self a).keep rfl (by simp)
  rest := rfl

/-- A whole creep stage with a count. -/
theorem iterate_creep (hcreeps : Creeps d rev sp a.motionFlags) (hcount : 0 < (d.creepSteps a).toNat)
    (hsub : a.creepSubcount = 0#8) :
    (∀ k, k < (d.creepSteps a).toNat * max a.creepPeriod.toNat 1 →
      ((tickOf rev sp)^[k] a).motionFlags = a.motionFlags) ∧
    CreepDone d rev a ((tickOf rev sp)^[(d.creepSteps a).toNat * max a.creepPeriod.toNat 1] a) := by
  have hblocks := creepBlocks hcreeps hcount
  have hstart := creepAt_start d hsub
  refine ⟨fun k hk => ?_, hblocks.iterate_all hstart⟩
  obtain ⟨j, r, -, -, hat⟩ := hblocks.exists_at hk hstart
  exact hat.flags

/-- A creep stage with a count of 0 ends with its first tick. -/
theorem creepDone_of_empty (hcreeps : Creeps d rev sp a.motionFlags) (hphase : a.phaseAngle.toNat < 3600)
    (hsub : a.creepSubcount = 0#8) (hcount : d.creepSteps a = 0#32) : CreepDone d rev a (tickOf rev sp a) := by
  obtain ⟨hres, hrest⟩ := hcreeps a rfl
  obtain ⟨-, -, hsub', hkept, hcleared, -, hdrop⟩ := hres.empty hcount
  refine ⟨hcleared, hsub'.trans hsub, ?_, hdrop, hrest⟩
  rw [toNat_eq_zero_iff.mpr hcount, Nat.cast_zero, mul_zero]
  exact phaseMoved_zero hphase hkept

end Creep

/-- Settles O36: a stage with a count runs its steps, one without ends at once. -/
theorem creepDuration : Obligations.CreepDuration := by
  unfold Obligations.CreepDuration
  intro rev sp a st sgn count n hst hstage hphase hsub hn
  obtain ⟨d, rfl, rfl, rfl, hbit⟩ : ∃ d : Direction, st = d.creep ∧ sgn = d.sgn ∧
      count = (d.creepSteps a).toNat ∧ (if st = .cwCreep then 0 else 1) = d.creepBit := by
    obtain ⟨rfl, rfl, rfl⟩ | ⟨rfl, rfl, rfl⟩ := hst
    · exact ⟨.cw, rfl, rfl, rfl, rfl⟩
    · exact ⟨.ccw, rfl, rfl, rfl, rfl⟩
  have hcreeps := creeps d rev sp hstage
  rw [hbit]
  by_cases hcount : (d.creepSteps a).toNat = 0
  · obtain ⟨hcleared, hsub', hmoved, -⟩ := creepDone_of_empty hcreeps hphase hsub (toNat_eq_zero_iff.mp hcount)
    rw [if_pos hcount] at hn
    subst hn
    refine ⟨fun k hk => ?_, hcleared, hsub', hmoved⟩
    rw [Nat.lt_one_iff.mp hk]
    rfl
  · obtain ⟨hbefore, hcleared, hsub', hmoved, -⟩ := iterate_creep hcreeps (Nat.pos_of_ne_zero hcount) hsub
    rw [if_neg hcount] at hn
    subst hn
    exact ⟨hbefore, hcleared, hsub', hmoved⟩

/-! ### A full move of an axis (41 R164) -/

theorem eq_clearStageBit_of_bitCleared {b : Nat} (hb : b < 8) {w w' : StageWord} (h : BitCleared b w w') :
    w' = clearStageBit w b :=
  BitVec.eq_of_getLsbD_eq fun j hj => (h ⟨j, hj⟩).trans (clearStageBit_getLsbD w b j hb).symm

/-- From `a` to `a'` the axis is active for `n` ticks and moves `d` units. -/
structure Travels (rev : Bool) (sp : BitVec 8) (n : Nat) (d : Int) (a a' : AxisState) : Prop where
  /-- The ticks. -/
  ticks : (tickOf rev sp)^[n] a = a'
  /-- Before the last one a stage is active. -/
  active : ∀ k, k < n → ((tickOf rev sp)^[k] a).motionFlags ≠ 0#8
  /-- The displacement. -/
  moved : PhaseMoved d a a'

theorem Travels.trans {rev : Bool} {sp : BitVec 8} {n n' : Nat} {d d' : Int} {a b c : AxisState}
    (h : Travels rev sp n d a b) (h' : Travels rev sp n' d' b c) : Travels rev sp (n' + n) (d + d') a c where
  ticks := by rw [Function.iterate_add_apply, h.ticks, h'.ticks]
  active k hk := by
    by_cases hlt : k < n
    · exact h.active k hlt
    · rw [show k = (k - n) + n by omega, Function.iterate_add_apply, h.ticks]
      exact h'.active (k - n) (by omega)
  moved := phaseMoved_add h.moved h'.moved

theorem travels_of_stage {rev : Bool} {sp : BitVec 8} {n : Nat} {d : Int} {a : AxisState} (hactive : a.motionFlags ≠ 0#8)
    (hbefore : ∀ k, k < n → ((tickOf rev sp)^[k] a).motionFlags = a.motionFlags)
    (hmoved : PhaseMoved d a ((tickOf rev sp)^[n] a)) : Travels rev sp n d a ((tickOf rev sp)^[n] a) where
  ticks := rfl
  active k hk := by rwa [hbefore k hk]
  moved := hmoved

namespace Direction

/-- The stage word of a full move: spin-up, cruise, spin-down and creep (41 R164). -/
def moveWord : Direction → StageWord
  | .cw => 0xE1#8
  | .ccw => 0x1E#8

/-- The stage word when the spin-up has ended. -/
def wordAfterSpinUp (d : Direction) : StageWord := clearStageBit d.moveWord d.spinUpBit

/-- The stage word when the cruise has ended. -/
def wordAfterCruise (d : Direction) : StageWord := clearStageBit d.wordAfterSpinUp d.cruiseBit

/-- The stage word when the spin-down has ended. -/
def wordAfterSpinDown (d : Direction) : StageWord := clearStageBit d.wordAfterCruise d.spinDownBit

theorem decodeStage_moveWord (d : Direction) : decodeStage d.moveWord = d.spinUp := by cases d <;> decide

theorem decodeStage_wordAfterSpinUp (d : Direction) : decodeStage d.wordAfterSpinUp = d.cruise := by cases d <;> decide

theorem decodeStage_wordAfterCruise (d : Direction) : decodeStage d.wordAfterCruise = d.spinDown := by cases d <;> decide

theorem decodeStage_wordAfterSpinDown (d : Direction) : decodeStage d.wordAfterSpinDown = d.creep := by cases d <;> decide

/-- With the creep the last stage ends. -/
theorem clearStageBit_wordAfterSpinDown (d : Direction) : clearStageBit d.wordAfterSpinDown d.creepBit = 0#8 := by
  cases d <;> decide

end Direction

/-- An axis with an active stage is not idle. -/
theorem ne_zero_of_decodeStage {w : StageWord} {st : Stage} (h : decodeStage w = st) (hst : st ≠ .idle) : w ≠ 0#8 :=
  fun hw => hst (h.symm.trans ((decodeStage_eq_idle_iff w).mpr hw))

/-- The axis with what the stages before the creep write blanked. -/
def besideTravel (a : AxisState) : AxisState := besideCruise (besideSpin a)

theorem besideTravel_of_besideSpin {x a : AxisState} (h : besideSpin x = besideSpin a) : besideTravel x = besideTravel a :=
  congrArg besideCruise h

theorem besideTravel_of_besideCruise {x a : AxisState} (h : besideCruise x = besideCruise a) :
    besideTravel x = besideTravel a :=
  show besideSpin (besideCruise x) = besideSpin (besideCruise a) from congrArg besideSpin h

theorem creepSteps_of_besideTravel (d : Direction) {x a : AxisState} (h : besideTravel x = besideTravel a) :
    d.creepSteps x = d.creepSteps a := by
  have hkept (y : AxisState) : d.creepSteps (besideTravel y) = d.creepSteps y := by cases d <;> rfl
  rw [← hkept x, h, hkept]

section FullMove

variable {d : Direction} {rev : Bool} {sp : BitVec 8} {a : AxisState}

/-- The spin-up of a full move: 33 ramp steps, with the entries 0 to 32 of the ramp. -/
theorem travels_spinUp (rev : Bool) (sp : BitVec 8) (hword : a.motionFlags = d.moveWord) (hpointer : a.spinPointer = 0#6)
    (hsub : a.spinSubcount = 0#8) :
    ∃ x, Travels rev sp (33 * max sp.toNat 1) (d.sgn * (528 * max sp.toNat 1 : Nat)) a x ∧
      x.motionFlags = d.wordAfterSpinUp ∧ x.spinPointer.toNat = 33 ∧ x.spinSubcount = 0#8 ∧
      besideSpin x = besideSpin a := by
  have hstage : decodeStage a.motionFlags = d.spinUp := by rw [hword, d.decodeStage_moveWord]
  have hp : a.spinPointer.toNat = 0 := by rw [hpointer]; rfl
  have hp33 : a.spinPointer.toNat ≤ 33 := by omega
  have hcount : spinUpCount a.spinPointer.toNat = 33 := by rw [hp]; rfl
  have hunits : spinUnits (max sp.toNat 1) (a.spinPointer.toNat + ·) 33 0 = 528 * max sp.toNat 1 := by
    rw [← hcount, spinUnits_up hp33, hp]
    rfl
  obtain ⟨hbefore, hcleared, hend, hsub', hmoved, hrest⟩ :=
    iterate_spin (spins_up d rev sp hstage) (spinUpPath hp33) hsub rfl
  rw [hcount] at hbefore hcleared hend hsub' hmoved hrest
  rw [hunits] at hmoved
  refine ⟨_, travels_of_stage (ne_zero_of_decodeStage hstage (by cases d <;> decide)) hbefore hmoved, ?_,
    hend, hsub', hrest⟩
  rw [eq_clearStageBit_of_bitCleared (by cases d <;> decide) hcleared, hword]
  rfl

/-- The cruise of a full move. -/
theorem travels_cruise (rev : Bool) (sp : BitVec 8) (hword : a.motionFlags = d.wordAfterSpinUp)
    (hcount : 1 ≤ a.cruiseSteps.toNat) :
    ∃ x, Travels rev sp a.cruiseSteps.toNat (d.sgn * (33 * a.cruiseSteps.toNat)) a x ∧
      x.motionFlags = d.wordAfterCruise ∧ besideCruise x = besideCruise a := by
  have hstage : decodeStage a.motionFlags = d.cruise := by rw [hword, d.decodeStage_wordAfterSpinUp]
  obtain ⟨hbefore, hcleared, -, hmoved, hrest⟩ := iterate_cruise (cruises d rev sp hstage) hcount
  refine ⟨_, travels_of_stage (ne_zero_of_decodeStage hstage (by cases d <;> decide)) hbefore hmoved, ?_, hrest⟩
  rw [eq_clearStageBit_of_bitCleared (by cases d <;> decide) hcleared, hword]
  rfl

/-- The spin-down of a full move: 33 ramp steps, with the entries 33 to 1 of the ramp. -/
theorem travels_spinDown (rev : Bool) (sp : BitVec 8) (hword : a.motionFlags = d.wordAfterCruise)
    (hp : a.spinPointer.toNat = 33) (hsub : a.spinSubcount = 0#8) :
    ∃ x, Travels rev sp (33 * max sp.toNat 1) (d.sgn * (561 * max sp.toNat 1 : Nat)) a x ∧
      x.motionFlags = d.wordAfterSpinDown ∧ x.spinPointer = 0#6 ∧ x.spinSubcount = 0#8 ∧
      besideSpin x = besideSpin a := by
  have hstage : decodeStage a.motionFlags = d.spinDown := by rw [hword, d.decodeStage_wordAfterCruise]
  have hcount : spinDownCount a.spinPointer.toNat = 33 := by rw [hp]; rfl
  have hunits : spinUnits (max sp.toNat 1) (a.spinPointer.toNat - ·) 33 0 = 561 * max sp.toNat 1 := by
    rw [← hcount, spinUnits_down, hp]
    rfl
  obtain ⟨hbefore, hcleared, hend, hsub', hmoved, hrest⟩ :=
    iterate_spin (spins_down d rev sp hstage) (spinDownPath a.spinPointer.toNat) hsub rfl
  rw [hcount] at hbefore hcleared hend hsub' hmoved hrest
  rw [hunits] at hmoved
  refine ⟨_, travels_of_stage (ne_zero_of_decodeStage hstage (by cases d <;> decide)) hbefore hmoved, ?_,
    BitVec.eq_of_toNat_eq hend, hsub', hrest⟩
  rw [eq_clearStageBit_of_bitCleared (by cases d <;> decide) hcleared, hword]
  rfl

/-- The creep of a full move. -/
theorem travels_creep (rev : Bool) (sp : BitVec 8) (hword : a.motionFlags = d.wordAfterSpinDown)
    (hcount : 1 ≤ (d.creepSteps a).toNat) (hrest : AtRest a) :
    ∃ x, Travels rev sp ((d.creepSteps a).toNat * max a.creepPeriod.toNat 1) (d.sgn * (d.creepSteps a).toNat) a x ∧
      x.motionFlags = 0#8 ∧ AtRest x ∧ DutiesAre rev a.curDrop.toNat x := by
  have hstage : decodeStage a.motionFlags = d.creep := by rw [hword, d.decodeStage_wordAfterSpinDown]
  obtain ⟨hpointer, hspin, hsub⟩ := hrest
  obtain ⟨hbefore, hcleared, hsub', hmoved, hdrop, hbeside⟩ := iterate_creep (creeps d rev sp hstage) hcount hsub
  have hidle := eq_clearStageBit_of_bitCleared (by cases d <;> decide) hcleared
  rw [hword, d.clearStageBit_wordAfterSpinDown] at hidle
  have hpointer' := congrArg AxisState.spinPointer hbeside
  have hspin' := congrArg AxisState.spinSubcount hbeside
  exact ⟨_, travels_of_stage (ne_zero_of_decodeStage hstage (by cases d <;> decide)) hbefore hmoved, hidle,
    ⟨hpointer'.trans hpointer, hspin'.trans hspin, hsub'⟩, hdrop hidle⟩

/-- The four stages of a full move, one after the other. -/
theorem travels_fullMove (rev : Bool) (sp : BitVec 8) (hword : a.motionFlags = d.moveWord) (hrest : AtRest a)
    (hcruise : 1 ≤ a.cruiseSteps.toNat) (hcreep : 1 ≤ (d.creepSteps a).toNat) :
    ∃ x, Travels rev sp
        (66 * max sp.toNat 1 + a.cruiseSteps.toNat + (d.creepSteps a).toNat * max a.creepPeriod.toNat 1)
        (d.sgn * (1089 * max sp.toNat 1 + 33 * a.cruiseSteps.toNat + (d.creepSteps a).toNat : Nat)) a x ∧
      x.motionFlags = 0#8 ∧ AtRest x ∧ DutiesAre rev a.curDrop.toNat x := by
  obtain ⟨hpointer, hspin, hsub⟩ := hrest
  obtain ⟨x1, htravel1, hword1, hp1, hspin1, hbeside1⟩ := travels_spinUp rev sp hword hpointer hspin
  have hcruise1 : x1.cruiseSteps = a.cruiseSteps :=
    show (besideSpin x1).cruiseSteps = (besideSpin a).cruiseSteps from congrArg AxisState.cruiseSteps hbeside1
  obtain ⟨x2, htravel2, hword2, hbeside2⟩ := travels_cruise rev sp hword1 (by rwa [hcruise1])
  have hp2 : x2.spinPointer = x1.spinPointer :=
    show (besideCruise x2).spinPointer = (besideCruise x1).spinPointer from congrArg AxisState.spinPointer hbeside2
  have hspin2 : x2.spinSubcount = x1.spinSubcount :=
    show (besideCruise x2).spinSubcount = (besideCruise x1).spinSubcount from congrArg AxisState.spinSubcount hbeside2
  obtain ⟨x3, htravel3, hword3, hp3, hspin3, hbeside3⟩ :=
    travels_spinDown rev sp hword2 (by rw [hp2, hp1]) (by rw [hspin2, hspin1])
  have hbeside : besideTravel x3 = besideTravel a :=
    (besideTravel_of_besideSpin hbeside3).trans
      ((besideTravel_of_besideCruise hbeside2).trans (besideTravel_of_besideSpin hbeside1))
  have hsteps3 := creepSteps_of_besideTravel d hbeside
  have hsub3 : x3.creepSubcount = a.creepSubcount :=
    show (besideTravel x3).creepSubcount = (besideTravel a).creepSubcount from congrArg AxisState.creepSubcount hbeside
  have hperiod3 : x3.creepPeriod = a.creepPeriod :=
    show (besideTravel x3).creepPeriod = (besideTravel a).creepPeriod from congrArg AxisState.creepPeriod hbeside
  have hdrop3 : x3.curDrop = a.curDrop :=
    show (besideTravel x3).curDrop = (besideTravel a).curDrop from congrArg AxisState.curDrop hbeside
  obtain ⟨x4, htravel4, hidle, hrest4, hduties⟩ :=
    travels_creep rev sp hword3 (by rwa [hsteps3]) ⟨hp3, hspin3, hsub3.trans hsub⟩
  rw [hsteps3, hperiod3] at htravel4
  rw [hcruise1] at htravel2
  rw [hdrop3] at hduties
  refine ⟨x4, ?_, hidle, hrest4, hduties⟩
  convert ((htravel1.trans htravel2).trans htravel3).trans htravel4 using 1
  · ring
  · push_cast
    ring

end FullMove

/-! ### The full move on the whole machine -/

/-- Steps use up as many of the turns to come. -/
theorem runSteps_turns {n : Nat} {s t : State} (h : runSteps n s = .next t) : t.turns = s.turns.drop n := by
  induction n generalizing s with
  | zero =>
    cases h
    rfl
  | succ n ih =>
    obtain ⟨u, hu⟩ := step_hasSuccessor s
    rw [runSteps_succ_of_next n hu] at h
    rw [ih h, step_turns hu, List.drop_tail]

/-- While nothing is committed, ticks of the machine bring an axis where its own ticks do. -/
theorem runSteps_ticks_of_le {s : State} {k n : Nat} {rest : List Turn} (hs : Ticking s) (hk : k ≤ n)
    (hturns : s.turns = ticks n ++ rest) :
    ∃ t, runSteps (2 * k) s = .next t ∧ ∀ m, t.axis m = (tickOf (s.rev m) s.spinPeriod)^[k] (s.axis m) := by
  refine runSteps_ticks k hs (rest := ticks (n - k) ++ rest) ?_
  rw [hturns, ← List.append_assoc, ← ticks_add, Nat.add_sub_cancel' hk]

/-- Settles O37: the axis makes the four stages of a full move, whatever the other axis does. -/
theorem fullMove : Obligations.FullMove := by
  unfold Obligations.FullMove
  intro s m word sgn creepSteps n rest hdirection hs hword hrest hcruise hcreep hn hturns
  obtain ⟨d, rfl, rfl, rfl⟩ : ∃ d : Direction, word = d.moveWord ∧ sgn = d.sgn ∧
      creepSteps = (d.creepSteps (s.axis m)).toNat := by
    obtain ⟨rfl, rfl, rfl⟩ | ⟨rfl, rfl, rfl⟩ := hdirection
    · exact ⟨.cw, rfl, rfl, rfl⟩
    · exact ⟨.ccw, rfl, rfl, rfl⟩
  obtain ⟨x, ⟨hticks, hactive, hmoved⟩, hidle, hrest', hduties⟩ :=
    travels_fullMove (s.rev m) s.spinPeriod hword hrest hcruise hcreep
  rw [← hn] at hticks hactive
  refine ⟨fun k hk => ?_, ?_⟩
  · obtain ⟨t, ht, haxis⟩ := runSteps_ticks_of_le hs hk.le hturns
    exact ⟨t, ht, by rw [haxis]; exact hactive k hk⟩
  · obtain ⟨t, ht, haxis⟩ := runSteps_ticks_of_le hs le_rfl hturns
    have hx : t.axis m = x := (haxis m).trans hticks
    have hrest'' : t.turns = rest := by
      rw [runSteps_turns ht, hturns]
      exact List.drop_left' (length_ticks n)
    simp only [Nat.cast_add, Nat.cast_mul, Nat.cast_ofNat] at hmoved
    refine ⟨t, ht, ?_⟩
    rw [hx]
    exact ⟨hidle, hrest', hduties, hrest'', hmoved⟩

end Sys2Proof.Machine
end
